-- ==== Sys2Proof/Word.lean ====
section
/-! DEFINITION. The two word types of the machine: every register, address and memory cell is one of them
(00_scope.md R7). -/
namespace Sys2Proof

/-- A byte: the width of the general registers and of every memory access (R7). -/
abbrev Byte := BitVec 8

/-- A 16-bit value: the register pairs, SP, PC and every address (R7). -/
abbrev Word := BitVec 16

/-- A shade or colour index, 0 to 3 (00_scope.md, glossary). -/
abbrev Shade := BitVec 2

end Sys2Proof
end

