-- ==== Sys2Proof/Machine/Bytes.lean ====
section
/-! DEFINITION. The byte-order, bit-field and sign-extension helpers of 00_scope.md R12 and R13. -/
namespace Sys2Proof

/-- `cat(h, l)` (R13). -/
def cat (h l : Byte) : Word := h ++ l

/-- `lo(w) = w[7:0]` (R13). -/
def lo (w : Word) : Byte := w.extractLsb' 0 8

/-- `hi(w) = w[15:8]` (R13). -/
def hi (w : Word) : Byte := w.extractLsb' 8 8

/-- `sext_16(v)`: the byte read as two's complement, as a 16-bit value (R13). -/
def sext16 (v : Byte) : Word := v.signExtend 16

/-- `0xFF00 + v`: the zero-extended offset into page 0xFF (30_encoding.md R133). -/
def page0xFF (v : Byte) : Word := cat 0xFF#8 v

/-- The bit `v[i]` as a number, 0 or 1 (R12). -/
def bitNat {w : Nat} (v : BitVec w) (i : Nat) : Nat := (v.getLsbD i).toNat

end Sys2Proof
end

