-- ==== Sys2Proof/Syntax.lean ====
section
/-! DEFINITION. The instruction set as syntax: the operand tables of 30_encoding.md R135 to R138 as enumerations, and Instr with
one constructor per row of opcode_table.json, in the table's order. An immediate is held as the byte or the word that the
instruction stream gives (R133); its extension belongs to the meaning. -/
namespace Sys2Proof

/-- The seven 8-bit registers that `R8` names (R135; its entry 6 is the memory byte at HL). -/
inductive Reg8 where
  | b | c | d | e | h | l | a
  deriving DecidableEq, Repr

/-- `R8[r]`: a register or the memory byte at HL (R135). -/
inductive Operand8 where
  | reg (r : Reg8)
  | atHl
  deriving DecidableEq, Repr

/-- `R16[p]` (R136). -/
inductive Pair where
  | bc | de | hl | sp
  deriving DecidableEq, Repr

/-- `R16S[p]` (R137). -/
inductive StackPair where
  | bc | de | hl | af
  deriving DecidableEq, Repr

/-- `CC[c]` (R138). -/
inductive Cond where
  | nz | z | nc | c
  deriving DecidableEq, Repr

/-- The eight 8-bit operations on A (R139, `x = 2`, by `y`). -/
inductive AluOp where
  | add | adc | sub | sbc | and | xor | or | cp
  deriving DecidableEq, Repr

/-- The eight operations of the prefixed shift group (44_rotate_shift.md R314, by `y`). -/
inductive RotOp where
  | rlc | rrc | rl | rr | sla | sra | swap | srl
  deriving DecidableEq, Repr

/-- One constructor per row of opcode_table.json. -/
inductive Instr where
  /-- `NOP`, 0x00, R370. -/
  | nop
  /-- `LD BC,d16`, 0x01, R230. -/
  | ldBcD16 (n : Word)
  /-- `LD (BC),A`, 0x02, R207. -/
  | ldAtBcA
  /-- `INC BC`, 0x03, R301. -/
  | incBc
  /-- `INC B`, 0x04, R275. -/
  | incB
  /-- `DEC B`, 0x05, R277. -/
  | decB
  /-- `LD B,d8`, 0x06, R203. -/
  | ldBD8 (n : Byte)
  /-- `RLCA`, 0x07, R310. -/
  | rlca
  /-- `LD (a16),SP`, 0x08, R231. -/
  | ldAtA16Sp (n : Word)
  /-- `ADD HL,BC`, 0x09, R300. -/
  | addHlBc
  /-- `LD A,(BC)`, 0x0A, R205. -/
  | ldAAtBc
  /-- `DEC BC`, 0x0B, R302. -/
  | decBc
  /-- `INC C`, 0x0C, R275. -/
  | incC
  /-- `DEC C`, 0x0D, R277. -/
  | decC
  /-- `LD C,d8`, 0x0E, R203. -/
  | ldCD8 (n : Byte)
  /-- `RRCA`, 0x0F, R311. -/
  | rrca
  /-- `STOP`, 0x10, R371. -/
  | stop
  /-- `LD DE,d16`, 0x11, R230. -/
  | ldDeD16 (n : Word)
  /-- `LD (DE),A`, 0x12, R208. -/
  | ldAtDeA
  /-- `INC DE`, 0x13, R301. -/
  | incDe
  /-- `INC D`, 0x14, R275. -/
  | incD
  /-- `DEC D`, 0x15, R277. -/
  | decD
  /-- `LD D,d8`, 0x16, R203. -/
  | ldDD8 (n : Byte)
  /-- `RLA`, 0x17, R312. -/
  | rla
  /-- `JR e8`, 0x18, R354. -/
  | jrE8 (n : Byte)
  /-- `ADD HL,DE`, 0x19, R300. -/
  | addHlDe
  /-- `LD A,(DE)`, 0x1A, R206. -/
  | ldAAtDe
  /-- `DEC DE`, 0x1B, R302. -/
  | decDe
  /-- `INC E`, 0x1C, R275. -/
  | incE
  /-- `DEC E`, 0x1D, R277. -/
  | decE
  /-- `LD E,d8`, 0x1E, R203. -/
  | ldED8 (n : Byte)
  /-- `RRA`, 0x1F, R313. -/
  | rra
  /-- `JR NZ,e8`, 0x20, R355. -/
  | jrNzE8 (n : Byte)
  /-- `LD HL,d16`, 0x21, R230. -/
  | ldHlD16 (n : Word)
  /-- `LD (HL+),A`, 0x22, R211. -/
  | ldAtHlIncA
  /-- `INC HL`, 0x23, R301. -/
  | incHl
  /-- `INC H`, 0x24, R275. -/
  | incH
  /-- `DEC H`, 0x25, R277. -/
  | decH
  /-- `LD H,d8`, 0x26, R203. -/
  | ldHD8 (n : Byte)
  /-- `DAA`, 0x27, R279. -/
  | daa
  /-- `JR Z,e8`, 0x28, R355. -/
  | jrZE8 (n : Byte)
  /-- `ADD HL,HL`, 0x29, R300. -/
  | addHlHl
  /-- `LD A,(HL+)`, 0x2A, R209. -/
  | ldAAtHlInc
  /-- `DEC HL`, 0x2B, R302. -/
  | decHl
  /-- `INC L`, 0x2C, R275. -/
  | incL
  /-- `DEC L`, 0x2D, R277. -/
  | decL
  /-- `LD L,d8`, 0x2E, R203. -/
  | ldLD8 (n : Byte)
  /-- `CPL`, 0x2F, R280. -/
  | cpl
  /-- `JR NC,e8`, 0x30, R355. -/
  | jrNcE8 (n : Byte)
  /-- `LD SP,d16`, 0x31, R230. -/
  | ldSpD16 (n : Word)
  /-- `LD (HL-),A`, 0x32, R212. -/
  | ldAtHlDecA
  /-- `INC SP`, 0x33, R301. -/
  | incSp
  /-- `INC (HL)`, 0x34, R276. -/
  | incAtHl
  /-- `DEC (HL)`, 0x35, R278. -/
  | decAtHl
  /-- `LD (HL),d8`, 0x36, R204. -/
  | ldAtHlD8 (n : Byte)
  /-- `SCF`, 0x37, R281. -/
  | scf
  /-- `JR C,e8`, 0x38, R355. -/
  | jrCE8 (n : Byte)
  /-- `ADD HL,SP`, 0x39, R300. -/
  | addHlSp
  /-- `LD A,(HL-)`, 0x3A, R210. -/
  | ldAAtHlDec
  /-- `DEC SP`, 0x3B, R302. -/
  | decSp
  /-- `INC A`, 0x3C, R275. -/
  | incA
  /-- `DEC A`, 0x3D, R277. -/
  | decA
  /-- `LD A,d8`, 0x3E, R203. -/
  | ldAD8 (n : Byte)
  /-- `CCF`, 0x3F, R282. -/
  | ccf
  /-- `LD B,B`, 0x40, R200. -/
  | ldBB
  /-- `LD B,C`, 0x41, R200. -/
  | ldBC
  /-- `LD B,D`, 0x42, R200. -/
  | ldBD
  /-- `LD B,E`, 0x43, R200. -/
  | ldBE
  /-- `LD B,H`, 0x44, R200. -/
  | ldBH
  /-- `LD B,L`, 0x45, R200. -/
  | ldBL
  /-- `LD B,(HL)`, 0x46, R201. -/
  | ldBAtHl
  /-- `LD B,A`, 0x47, R200. -/
  | ldBA
  /-- `LD C,B`, 0x48, R200. -/
  | ldCB
  /-- `LD C,C`, 0x49, R200. -/
  | ldCC
  /-- `LD C,D`, 0x4A, R200. -/
  | ldCD
  /-- `LD C,E`, 0x4B, R200. -/
  | ldCE
  /-- `LD C,H`, 0x4C, R200. -/
  | ldCH
  /-- `LD C,L`, 0x4D, R200. -/
  | ldCL
  /-- `LD C,(HL)`, 0x4E, R201. -/
  | ldCAtHl
  /-- `LD C,A`, 0x4F, R200. -/
  | ldCA
  /-- `LD D,B`, 0x50, R200. -/
  | ldDB
  /-- `LD D,C`, 0x51, R200. -/
  | ldDC
  /-- `LD D,D`, 0x52, R200. -/
  | ldDD
  /-- `LD D,E`, 0x53, R200. -/
  | ldDE
  /-- `LD D,H`, 0x54, R200. -/
  | ldDH
  /-- `LD D,L`, 0x55, R200. -/
  | ldDL
  /-- `LD D,(HL)`, 0x56, R201. -/
  | ldDAtHl
  /-- `LD D,A`, 0x57, R200. -/
  | ldDA
  /-- `LD E,B`, 0x58, R200. -/
  | ldEB
  /-- `LD E,C`, 0x59, R200. -/
  | ldEC
  /-- `LD E,D`, 0x5A, R200. -/
  | ldED
  /-- `LD E,E`, 0x5B, R200. -/
  | ldEE
  /-- `LD E,H`, 0x5C, R200. -/
  | ldEH
  /-- `LD E,L`, 0x5D, R200. -/
  | ldEL
  /-- `LD E,(HL)`, 0x5E, R201. -/
  | ldEAtHl
  /-- `LD E,A`, 0x5F, R200. -/
  | ldEA
  /-- `LD H,B`, 0x60, R200. -/
  | ldHB
  /-- `LD H,C`, 0x61, R200. -/
  | ldHC
  /-- `LD H,D`, 0x62, R200. -/
  | ldHD
  /-- `LD H,E`, 0x63, R200. -/
  | ldHE
  /-- `LD H,H`, 0x64, R200. -/
  | ldHH
  /-- `LD H,L`, 0x65, R200. -/
  | ldHL
  /-- `LD H,(HL)`, 0x66, R201. -/
  | ldHAtHl
  /-- `LD H,A`, 0x67, R200. -/
  | ldHA
  /-- `LD L,B`, 0x68, R200. -/
  | ldLB
  /-- `LD L,C`, 0x69, R200. -/
  | ldLC
  /-- `LD L,D`, 0x6A, R200. -/
  | ldLD
  /-- `LD L,E`, 0x6B, R200. -/
  | ldLE
  /-- `LD L,H`, 0x6C, R200. -/
  | ldLH
  /-- `LD L,L`, 0x6D, R200. -/
  | ldLL
  /-- `LD L,(HL)`, 0x6E, R201. -/
  | ldLAtHl
  /-- `LD L,A`, 0x6F, R200. -/
  | ldLA
  /-- `LD (HL),B`, 0x70, R202. -/
  | ldAtHlB
  /-- `LD (HL),C`, 0x71, R202. -/
  | ldAtHlC
  /-- `LD (HL),D`, 0x72, R202. -/
  | ldAtHlD
  /-- `LD (HL),E`, 0x73, R202. -/
  | ldAtHlE
  /-- `LD (HL),H`, 0x74, R202. -/
  | ldAtHlH
  /-- `LD (HL),L`, 0x75, R202. -/
  | ldAtHlL
  /-- `HALT`, 0x76, R372. -/
  | halt
  /-- `LD (HL),A`, 0x77, R202. -/
  | ldAtHlA
  /-- `LD A,B`, 0x78, R200. -/
  | ldAB
  /-- `LD A,C`, 0x79, R200. -/
  | ldAC
  /-- `LD A,D`, 0x7A, R200. -/
  | ldAD
  /-- `LD A,E`, 0x7B, R200. -/
  | ldAE
  /-- `LD A,H`, 0x7C, R200. -/
  | ldAH
  /-- `LD A,L`, 0x7D, R200. -/
  | ldAL
  /-- `LD A,(HL)`, 0x7E, R201. -/
  | ldAAtHl
  /-- `LD A,A`, 0x7F, R200. -/
  | ldAA
  /-- `ADD A,B`, 0x80, R251. -/
  | addAB
  /-- `ADD A,C`, 0x81, R251. -/
  | addAC
  /-- `ADD A,D`, 0x82, R251. -/
  | addAD
  /-- `ADD A,E`, 0x83, R251. -/
  | addAE
  /-- `ADD A,H`, 0x84, R251. -/
  | addAH
  /-- `ADD A,L`, 0x85, R251. -/
  | addAL
  /-- `ADD A,(HL)`, 0x86, R252. -/
  | addAAtHl
  /-- `ADD A,A`, 0x87, R251. -/
  | addAA
  /-- `ADC A,B`, 0x88, R254. -/
  | adcAB
  /-- `ADC A,C`, 0x89, R254. -/
  | adcAC
  /-- `ADC A,D`, 0x8A, R254. -/
  | adcAD
  /-- `ADC A,E`, 0x8B, R254. -/
  | adcAE
  /-- `ADC A,H`, 0x8C, R254. -/
  | adcAH
  /-- `ADC A,L`, 0x8D, R254. -/
  | adcAL
  /-- `ADC A,(HL)`, 0x8E, R255. -/
  | adcAAtHl
  /-- `ADC A,A`, 0x8F, R254. -/
  | adcAA
  /-- `SUB B`, 0x90, R257. -/
  | subB
  /-- `SUB C`, 0x91, R257. -/
  | subC
  /-- `SUB D`, 0x92, R257. -/
  | subD
  /-- `SUB E`, 0x93, R257. -/
  | subE
  /-- `SUB H`, 0x94, R257. -/
  | subH
  /-- `SUB L`, 0x95, R257. -/
  | subL
  /-- `SUB (HL)`, 0x96, R258. -/
  | subAtHl
  /-- `SUB A`, 0x97, R257. -/
  | subA
  /-- `SBC A,B`, 0x98, R260. -/
  | sbcAB
  /-- `SBC A,C`, 0x99, R260. -/
  | sbcAC
  /-- `SBC A,D`, 0x9A, R260. -/
  | sbcAD
  /-- `SBC A,E`, 0x9B, R260. -/
  | sbcAE
  /-- `SBC A,H`, 0x9C, R260. -/
  | sbcAH
  /-- `SBC A,L`, 0x9D, R260. -/
  | sbcAL
  /-- `SBC A,(HL)`, 0x9E, R261. -/
  | sbcAAtHl
  /-- `SBC A,A`, 0x9F, R260. -/
  | sbcAA
  /-- `AND B`, 0xA0, R263. -/
  | andB
  /-- `AND C`, 0xA1, R263. -/
  | andC
  /-- `AND D`, 0xA2, R263. -/
  | andD
  /-- `AND E`, 0xA3, R263. -/
  | andE
  /-- `AND H`, 0xA4, R263. -/
  | andH
  /-- `AND L`, 0xA5, R263. -/
  | andL
  /-- `AND (HL)`, 0xA6, R264. -/
  | andAtHl
  /-- `AND A`, 0xA7, R263. -/
  | andA
  /-- `XOR B`, 0xA8, R266. -/
  | xorB
  /-- `XOR C`, 0xA9, R266. -/
  | xorC
  /-- `XOR D`, 0xAA, R266. -/
  | xorD
  /-- `XOR E`, 0xAB, R266. -/
  | xorE
  /-- `XOR H`, 0xAC, R266. -/
  | xorH
  /-- `XOR L`, 0xAD, R266. -/
  | xorL
  /-- `XOR (HL)`, 0xAE, R267. -/
  | xorAtHl
  /-- `XOR A`, 0xAF, R266. -/
  | xorA
  /-- `OR B`, 0xB0, R269. -/
  | orB
  /-- `OR C`, 0xB1, R269. -/
  | orC
  /-- `OR D`, 0xB2, R269. -/
  | orD
  /-- `OR E`, 0xB3, R269. -/
  | orE
  /-- `OR H`, 0xB4, R269. -/
  | orH
  /-- `OR L`, 0xB5, R269. -/
  | orL
  /-- `OR (HL)`, 0xB6, R270. -/
  | orAtHl
  /-- `OR A`, 0xB7, R269. -/
  | orA
  /-- `CP B`, 0xB8, R272. -/
  | cpB
  /-- `CP C`, 0xB9, R272. -/
  | cpC
  /-- `CP D`, 0xBA, R272. -/
  | cpD
  /-- `CP E`, 0xBB, R272. -/
  | cpE
  /-- `CP H`, 0xBC, R272. -/
  | cpH
  /-- `CP L`, 0xBD, R272. -/
  | cpL
  /-- `CP (HL)`, 0xBE, R273. -/
  | cpAtHl
  /-- `CP A`, 0xBF, R272. -/
  | cpA
  /-- `RET NZ`, 0xC0, R359. -/
  | retNz
  /-- `POP BC`, 0xC1, R236. -/
  | popBc
  /-- `JP NZ,a16`, 0xC2, R352. -/
  | jpNzA16 (n : Word)
  /-- `JP a16`, 0xC3, R351. -/
  | jpA16 (n : Word)
  /-- `CALL NZ,a16`, 0xC4, R357. -/
  | callNzA16 (n : Word)
  /-- `PUSH BC`, 0xC5, R234. -/
  | pushBc
  /-- `ADD A,d8`, 0xC6, R253. -/
  | addAD8 (n : Byte)
  /-- `RST 00H`, 0xC7, R362. -/
  | rst00
  /-- `RET Z`, 0xC8, R359. -/
  | retZ
  /-- `RET`, 0xC9, R358. -/
  | ret
  /-- `JP Z,a16`, 0xCA, R352. -/
  | jpZA16 (n : Word)
  /-- `CALL Z,a16`, 0xCC, R357. -/
  | callZA16 (n : Word)
  /-- `CALL a16`, 0xCD, R356. -/
  | callA16 (n : Word)
  /-- `ADC A,d8`, 0xCE, R256. -/
  | adcAD8 (n : Byte)
  /-- `RST 08H`, 0xCF, R362. -/
  | rst08
  /-- `RET NC`, 0xD0, R359. -/
  | retNc
  /-- `POP DE`, 0xD1, R236. -/
  | popDe
  /-- `JP NC,a16`, 0xD2, R352. -/
  | jpNcA16 (n : Word)
  /-- `CALL NC,a16`, 0xD4, R357. -/
  | callNcA16 (n : Word)
  /-- `PUSH DE`, 0xD5, R234. -/
  | pushDe
  /-- `SUB d8`, 0xD6, R259. -/
  | subD8 (n : Byte)
  /-- `RST 10H`, 0xD7, R362. -/
  | rst10
  /-- `RET C`, 0xD8, R359. -/
  | retC
  /-- `RETI`, 0xD9, R361. -/
  | reti
  /-- `JP C,a16`, 0xDA, R352. -/
  | jpCA16 (n : Word)
  /-- `CALL C,a16`, 0xDC, R357. -/
  | callCA16 (n : Word)
  /-- `SBC A,d8`, 0xDE, R262. -/
  | sbcAD8 (n : Byte)
  /-- `RST 18H`, 0xDF, R362. -/
  | rst18
  /-- `LDH (a8),A`, 0xE0, R216. -/
  | ldhAtA8A (n : Byte)
  /-- `POP HL`, 0xE1, R236. -/
  | popHl
  /-- `LD (C),A`, 0xE2, R218. -/
  | ldAtCA
  /-- `PUSH HL`, 0xE5, R234. -/
  | pushHl
  /-- `AND d8`, 0xE6, R265. -/
  | andD8 (n : Byte)
  /-- `RST 20H`, 0xE7, R362. -/
  | rst20
  /-- `ADD SP,e8`, 0xE8, R303. -/
  | addSpE8 (n : Byte)
  /-- `JP HL`, 0xE9, R353. -/
  | jpHl
  /-- `LD (a16),A`, 0xEA, R214. -/
  | ldAtA16A (n : Word)
  /-- `XOR d8`, 0xEE, R268. -/
  | xorD8 (n : Byte)
  /-- `RST 28H`, 0xEF, R362. -/
  | rst28
  /-- `LDH A,(a8)`, 0xF0, R215. -/
  | ldhAAtA8 (n : Byte)
  /-- `POP AF`, 0xF1, R237. -/
  | popAf
  /-- `LD A,(C)`, 0xF2, R217. -/
  | ldAAtC
  /-- `DI`, 0xF3, R374. -/
  | di
  /-- `PUSH AF`, 0xF5, R235. -/
  | pushAf
  /-- `OR d8`, 0xF6, R271. -/
  | orD8 (n : Byte)
  /-- `RST 30H`, 0xF7, R362. -/
  | rst30
  /-- `LD HL,SP+e8`, 0xF8, R233. -/
  | ldHlSpE8 (n : Byte)
  /-- `LD SP,HL`, 0xF9, R232. -/
  | ldSpHl
  /-- `LD A,(a16)`, 0xFA, R213. -/
  | ldAAtA16 (n : Word)
  /-- `EI`, 0xFB, R375. -/
  | ei
  /-- `CP d8`, 0xFE, R274. -/
  | cpD8 (n : Byte)
  /-- `RST 38H`, 0xFF, R362. -/
  | rst38
  /-- `RLC B`, 0xCB00, R315. -/
  | rlcB
  /-- `RLC C`, 0xCB01, R315. -/
  | rlcC
  /-- `RLC D`, 0xCB02, R315. -/
  | rlcD
  /-- `RLC E`, 0xCB03, R315. -/
  | rlcE
  /-- `RLC H`, 0xCB04, R315. -/
  | rlcH
  /-- `RLC L`, 0xCB05, R315. -/
  | rlcL
  /-- `RLC (HL)`, 0xCB06, R316. -/
  | rlcAtHl
  /-- `RLC A`, 0xCB07, R315. -/
  | rlcA
  /-- `RRC B`, 0xCB08, R317. -/
  | rrcB
  /-- `RRC C`, 0xCB09, R317. -/
  | rrcC
  /-- `RRC D`, 0xCB0A, R317. -/
  | rrcD
  /-- `RRC E`, 0xCB0B, R317. -/
  | rrcE
  /-- `RRC H`, 0xCB0C, R317. -/
  | rrcH
  /-- `RRC L`, 0xCB0D, R317. -/
  | rrcL
  /-- `RRC (HL)`, 0xCB0E, R318. -/
  | rrcAtHl
  /-- `RRC A`, 0xCB0F, R317. -/
  | rrcA
  /-- `RL B`, 0xCB10, R319. -/
  | rlB
  /-- `RL C`, 0xCB11, R319. -/
  | rlC
  /-- `RL D`, 0xCB12, R319. -/
  | rlD
  /-- `RL E`, 0xCB13, R319. -/
  | rlE
  /-- `RL H`, 0xCB14, R319. -/
  | rlH
  /-- `RL L`, 0xCB15, R319. -/
  | rlL
  /-- `RL (HL)`, 0xCB16, R320. -/
  | rlAtHl
  /-- `RL A`, 0xCB17, R319. -/
  | rlA
  /-- `RR B`, 0xCB18, R321. -/
  | rrB
  /-- `RR C`, 0xCB19, R321. -/
  | rrC
  /-- `RR D`, 0xCB1A, R321. -/
  | rrD
  /-- `RR E`, 0xCB1B, R321. -/
  | rrE
  /-- `RR H`, 0xCB1C, R321. -/
  | rrH
  /-- `RR L`, 0xCB1D, R321. -/
  | rrL
  /-- `RR (HL)`, 0xCB1E, R322. -/
  | rrAtHl
  /-- `RR A`, 0xCB1F, R321. -/
  | rrA
  /-- `SLA B`, 0xCB20, R323. -/
  | slaB
  /-- `SLA C`, 0xCB21, R323. -/
  | slaC
  /-- `SLA D`, 0xCB22, R323. -/
  | slaD
  /-- `SLA E`, 0xCB23, R323. -/
  | slaE
  /-- `SLA H`, 0xCB24, R323. -/
  | slaH
  /-- `SLA L`, 0xCB25, R323. -/
  | slaL
  /-- `SLA (HL)`, 0xCB26, R324. -/
  | slaAtHl
  /-- `SLA A`, 0xCB27, R323. -/
  | slaA
  /-- `SRA B`, 0xCB28, R325. -/
  | sraB
  /-- `SRA C`, 0xCB29, R325. -/
  | sraC
  /-- `SRA D`, 0xCB2A, R325. -/
  | sraD
  /-- `SRA E`, 0xCB2B, R325. -/
  | sraE
  /-- `SRA H`, 0xCB2C, R325. -/
  | sraH
  /-- `SRA L`, 0xCB2D, R325. -/
  | sraL
  /-- `SRA (HL)`, 0xCB2E, R326. -/
  | sraAtHl
  /-- `SRA A`, 0xCB2F, R325. -/
  | sraA
  /-- `SWAP B`, 0xCB30, R327. -/
  | swapB
  /-- `SWAP C`, 0xCB31, R327. -/
  | swapC
  /-- `SWAP D`, 0xCB32, R327. -/
  | swapD
  /-- `SWAP E`, 0xCB33, R327. -/
  | swapE
  /-- `SWAP H`, 0xCB34, R327. -/
  | swapH
  /-- `SWAP L`, 0xCB35, R327. -/
  | swapL
  /-- `SWAP (HL)`, 0xCB36, R328. -/
  | swapAtHl
  /-- `SWAP A`, 0xCB37, R327. -/
  | swapA
  /-- `SRL B`, 0xCB38, R329. -/
  | srlB
  /-- `SRL C`, 0xCB39, R329. -/
  | srlC
  /-- `SRL D`, 0xCB3A, R329. -/
  | srlD
  /-- `SRL E`, 0xCB3B, R329. -/
  | srlE
  /-- `SRL H`, 0xCB3C, R329. -/
  | srlH
  /-- `SRL L`, 0xCB3D, R329. -/
  | srlL
  /-- `SRL (HL)`, 0xCB3E, R330. -/
  | srlAtHl
  /-- `SRL A`, 0xCB3F, R329. -/
  | srlA
  /-- `BIT 0,B`, 0xCB40, R340. -/
  | bit0B
  /-- `BIT 0,C`, 0xCB41, R340. -/
  | bit0C
  /-- `BIT 0,D`, 0xCB42, R340. -/
  | bit0D
  /-- `BIT 0,E`, 0xCB43, R340. -/
  | bit0E
  /-- `BIT 0,H`, 0xCB44, R340. -/
  | bit0H
  /-- `BIT 0,L`, 0xCB45, R340. -/
  | bit0L
  /-- `BIT 0,(HL)`, 0xCB46, R341. -/
  | bit0AtHl
  /-- `BIT 0,A`, 0xCB47, R340. -/
  | bit0A
  /-- `BIT 1,B`, 0xCB48, R340. -/
  | bit1B
  /-- `BIT 1,C`, 0xCB49, R340. -/
  | bit1C
  /-- `BIT 1,D`, 0xCB4A, R340. -/
  | bit1D
  /-- `BIT 1,E`, 0xCB4B, R340. -/
  | bit1E
  /-- `BIT 1,H`, 0xCB4C, R340. -/
  | bit1H
  /-- `BIT 1,L`, 0xCB4D, R340. -/
  | bit1L
  /-- `BIT 1,(HL)`, 0xCB4E, R341. -/
  | bit1AtHl
  /-- `BIT 1,A`, 0xCB4F, R340. -/
  | bit1A
  /-- `BIT 2,B`, 0xCB50, R340. -/
  | bit2B
  /-- `BIT 2,C`, 0xCB51, R340. -/
  | bit2C
  /-- `BIT 2,D`, 0xCB52, R340. -/
  | bit2D
  /-- `BIT 2,E`, 0xCB53, R340. -/
  | bit2E
  /-- `BIT 2,H`, 0xCB54, R340. -/
  | bit2H
  /-- `BIT 2,L`, 0xCB55, R340. -/
  | bit2L
  /-- `BIT 2,(HL)`, 0xCB56, R341. -/
  | bit2AtHl
  /-- `BIT 2,A`, 0xCB57, R340. -/
  | bit2A
  /-- `BIT 3,B`, 0xCB58, R340. -/
  | bit3B
  /-- `BIT 3,C`, 0xCB59, R340. -/
  | bit3C
  /-- `BIT 3,D`, 0xCB5A, R340. -/
  | bit3D
  /-- `BIT 3,E`, 0xCB5B, R340. -/
  | bit3E
  /-- `BIT 3,H`, 0xCB5C, R340. -/
  | bit3H
  /-- `BIT 3,L`, 0xCB5D, R340. -/
  | bit3L
  /-- `BIT 3,(HL)`, 0xCB5E, R341. -/
  | bit3AtHl
  /-- `BIT 3,A`, 0xCB5F, R340. -/
  | bit3A
  /-- `BIT 4,B`, 0xCB60, R340. -/
  | bit4B
  /-- `BIT 4,C`, 0xCB61, R340. -/
  | bit4C
  /-- `BIT 4,D`, 0xCB62, R340. -/
  | bit4D
  /-- `BIT 4,E`, 0xCB63, R340. -/
  | bit4E
  /-- `BIT 4,H`, 0xCB64, R340. -/
  | bit4H
  /-- `BIT 4,L`, 0xCB65, R340. -/
  | bit4L
  /-- `BIT 4,(HL)`, 0xCB66, R341. -/
  | bit4AtHl
  /-- `BIT 4,A`, 0xCB67, R340. -/
  | bit4A
  /-- `BIT 5,B`, 0xCB68, R340. -/
  | bit5B
  /-- `BIT 5,C`, 0xCB69, R340. -/
  | bit5C
  /-- `BIT 5,D`, 0xCB6A, R340. -/
  | bit5D
  /-- `BIT 5,E`, 0xCB6B, R340. -/
  | bit5E
  /-- `BIT 5,H`, 0xCB6C, R340. -/
  | bit5H
  /-- `BIT 5,L`, 0xCB6D, R340. -/
  | bit5L
  /-- `BIT 5,(HL)`, 0xCB6E, R341. -/
  | bit5AtHl
  /-- `BIT 5,A`, 0xCB6F, R340. -/
  | bit5A
  /-- `BIT 6,B`, 0xCB70, R340. -/
  | bit6B
  /-- `BIT 6,C`, 0xCB71, R340. -/
  | bit6C
  /-- `BIT 6,D`, 0xCB72, R340. -/
  | bit6D
  /-- `BIT 6,E`, 0xCB73, R340. -/
  | bit6E
  /-- `BIT 6,H`, 0xCB74, R340. -/
  | bit6H
  /-- `BIT 6,L`, 0xCB75, R340. -/
  | bit6L
  /-- `BIT 6,(HL)`, 0xCB76, R341. -/
  | bit6AtHl
  /-- `BIT 6,A`, 0xCB77, R340. -/
  | bit6A
  /-- `BIT 7,B`, 0xCB78, R340. -/
  | bit7B
  /-- `BIT 7,C`, 0xCB79, R340. -/
  | bit7C
  /-- `BIT 7,D`, 0xCB7A, R340. -/
  | bit7D
  /-- `BIT 7,E`, 0xCB7B, R340. -/
  | bit7E
  /-- `BIT 7,H`, 0xCB7C, R340. -/
  | bit7H
  /-- `BIT 7,L`, 0xCB7D, R340. -/
  | bit7L
  /-- `BIT 7,(HL)`, 0xCB7E, R341. -/
  | bit7AtHl
  /-- `BIT 7,A`, 0xCB7F, R340. -/
  | bit7A
  /-- `RES 0,B`, 0xCB80, R342. -/
  | res0B
  /-- `RES 0,C`, 0xCB81, R342. -/
  | res0C
  /-- `RES 0,D`, 0xCB82, R342. -/
  | res0D
  /-- `RES 0,E`, 0xCB83, R342. -/
  | res0E
  /-- `RES 0,H`, 0xCB84, R342. -/
  | res0H
  /-- `RES 0,L`, 0xCB85, R342. -/
  | res0L
  /-- `RES 0,(HL)`, 0xCB86, R343. -/
  | res0AtHl
  /-- `RES 0,A`, 0xCB87, R342. -/
  | res0A
  /-- `RES 1,B`, 0xCB88, R342. -/
  | res1B
  /-- `RES 1,C`, 0xCB89, R342. -/
  | res1C
  /-- `RES 1,D`, 0xCB8A, R342. -/
  | res1D
  /-- `RES 1,E`, 0xCB8B, R342. -/
  | res1E
  /-- `RES 1,H`, 0xCB8C, R342. -/
  | res1H
  /-- `RES 1,L`, 0xCB8D, R342. -/
  | res1L
  /-- `RES 1,(HL)`, 0xCB8E, R343. -/
  | res1AtHl
  /-- `RES 1,A`, 0xCB8F, R342. -/
  | res1A
  /-- `RES 2,B`, 0xCB90, R342. -/
  | res2B
  /-- `RES 2,C`, 0xCB91, R342. -/
  | res2C
  /-- `RES 2,D`, 0xCB92, R342. -/
  | res2D
  /-- `RES 2,E`, 0xCB93, R342. -/
  | res2E
  /-- `RES 2,H`, 0xCB94, R342. -/
  | res2H
  /-- `RES 2,L`, 0xCB95, R342. -/
  | res2L
  /-- `RES 2,(HL)`, 0xCB96, R343. -/
  | res2AtHl
  /-- `RES 2,A`, 0xCB97, R342. -/
  | res2A
  /-- `RES 3,B`, 0xCB98, R342. -/
  | res3B
  /-- `RES 3,C`, 0xCB99, R342. -/
  | res3C
  /-- `RES 3,D`, 0xCB9A, R342. -/
  | res3D
  /-- `RES 3,E`, 0xCB9B, R342. -/
  | res3E
  /-- `RES 3,H`, 0xCB9C, R342. -/
  | res3H
  /-- `RES 3,L`, 0xCB9D, R342. -/
  | res3L
  /-- `RES 3,(HL)`, 0xCB9E, R343. -/
  | res3AtHl
  /-- `RES 3,A`, 0xCB9F, R342. -/
  | res3A
  /-- `RES 4,B`, 0xCBA0, R342. -/
  | res4B
  /-- `RES 4,C`, 0xCBA1, R342. -/
  | res4C
  /-- `RES 4,D`, 0xCBA2, R342. -/
  | res4D
  /-- `RES 4,E`, 0xCBA3, R342. -/
  | res4E
  /-- `RES 4,H`, 0xCBA4, R342. -/
  | res4H
  /-- `RES 4,L`, 0xCBA5, R342. -/
  | res4L
  /-- `RES 4,(HL)`, 0xCBA6, R343. -/
  | res4AtHl
  /-- `RES 4,A`, 0xCBA7, R342. -/
  | res4A
  /-- `RES 5,B`, 0xCBA8, R342. -/
  | res5B
  /-- `RES 5,C`, 0xCBA9, R342. -/
  | res5C
  /-- `RES 5,D`, 0xCBAA, R342. -/
  | res5D
  /-- `RES 5,E`, 0xCBAB, R342. -/
  | res5E
  /-- `RES 5,H`, 0xCBAC, R342. -/
  | res5H
  /-- `RES 5,L`, 0xCBAD, R342. -/
  | res5L
  /-- `RES 5,(HL)`, 0xCBAE, R343. -/
  | res5AtHl
  /-- `RES 5,A`, 0xCBAF, R342. -/
  | res5A
  /-- `RES 6,B`, 0xCBB0, R342. -/
  | res6B
  /-- `RES 6,C`, 0xCBB1, R342. -/
  | res6C
  /-- `RES 6,D`, 0xCBB2, R342. -/
  | res6D
  /-- `RES 6,E`, 0xCBB3, R342. -/
  | res6E
  /-- `RES 6,H`, 0xCBB4, R342. -/
  | res6H
  /-- `RES 6,L`, 0xCBB5, R342. -/
  | res6L
  /-- `RES 6,(HL)`, 0xCBB6, R343. -/
  | res6AtHl
  /-- `RES 6,A`, 0xCBB7, R342. -/
  | res6A
  /-- `RES 7,B`, 0xCBB8, R342. -/
  | res7B
  /-- `RES 7,C`, 0xCBB9, R342. -/
  | res7C
  /-- `RES 7,D`, 0xCBBA, R342. -/
  | res7D
  /-- `RES 7,E`, 0xCBBB, R342. -/
  | res7E
  /-- `RES 7,H`, 0xCBBC, R342. -/
  | res7H
  /-- `RES 7,L`, 0xCBBD, R342. -/
  | res7L
  /-- `RES 7,(HL)`, 0xCBBE, R343. -/
  | res7AtHl
  /-- `RES 7,A`, 0xCBBF, R342. -/
  | res7A
  /-- `SET 0,B`, 0xCBC0, R344. -/
  | set0B
  /-- `SET 0,C`, 0xCBC1, R344. -/
  | set0C
  /-- `SET 0,D`, 0xCBC2, R344. -/
  | set0D
  /-- `SET 0,E`, 0xCBC3, R344. -/
  | set0E
  /-- `SET 0,H`, 0xCBC4, R344. -/
  | set0H
  /-- `SET 0,L`, 0xCBC5, R344. -/
  | set0L
  /-- `SET 0,(HL)`, 0xCBC6, R345. -/
  | set0AtHl
  /-- `SET 0,A`, 0xCBC7, R344. -/
  | set0A
  /-- `SET 1,B`, 0xCBC8, R344. -/
  | set1B
  /-- `SET 1,C`, 0xCBC9, R344. -/
  | set1C
  /-- `SET 1,D`, 0xCBCA, R344. -/
  | set1D
  /-- `SET 1,E`, 0xCBCB, R344. -/
  | set1E
  /-- `SET 1,H`, 0xCBCC, R344. -/
  | set1H
  /-- `SET 1,L`, 0xCBCD, R344. -/
  | set1L
  /-- `SET 1,(HL)`, 0xCBCE, R345. -/
  | set1AtHl
  /-- `SET 1,A`, 0xCBCF, R344. -/
  | set1A
  /-- `SET 2,B`, 0xCBD0, R344. -/
  | set2B
  /-- `SET 2,C`, 0xCBD1, R344. -/
  | set2C
  /-- `SET 2,D`, 0xCBD2, R344. -/
  | set2D
  /-- `SET 2,E`, 0xCBD3, R344. -/
  | set2E
  /-- `SET 2,H`, 0xCBD4, R344. -/
  | set2H
  /-- `SET 2,L`, 0xCBD5, R344. -/
  | set2L
  /-- `SET 2,(HL)`, 0xCBD6, R345. -/
  | set2AtHl
  /-- `SET 2,A`, 0xCBD7, R344. -/
  | set2A
  /-- `SET 3,B`, 0xCBD8, R344. -/
  | set3B
  /-- `SET 3,C`, 0xCBD9, R344. -/
  | set3C
  /-- `SET 3,D`, 0xCBDA, R344. -/
  | set3D
  /-- `SET 3,E`, 0xCBDB, R344. -/
  | set3E
  /-- `SET 3,H`, 0xCBDC, R344. -/
  | set3H
  /-- `SET 3,L`, 0xCBDD, R344. -/
  | set3L
  /-- `SET 3,(HL)`, 0xCBDE, R345. -/
  | set3AtHl
  /-- `SET 3,A`, 0xCBDF, R344. -/
  | set3A
  /-- `SET 4,B`, 0xCBE0, R344. -/
  | set4B
  /-- `SET 4,C`, 0xCBE1, R344. -/
  | set4C
  /-- `SET 4,D`, 0xCBE2, R344. -/
  | set4D
  /-- `SET 4,E`, 0xCBE3, R344. -/
  | set4E
  /-- `SET 4,H`, 0xCBE4, R344. -/
  | set4H
  /-- `SET 4,L`, 0xCBE5, R344. -/
  | set4L
  /-- `SET 4,(HL)`, 0xCBE6, R345. -/
  | set4AtHl
  /-- `SET 4,A`, 0xCBE7, R344. -/
  | set4A
  /-- `SET 5,B`, 0xCBE8, R344. -/
  | set5B
  /-- `SET 5,C`, 0xCBE9, R344. -/
  | set5C
  /-- `SET 5,D`, 0xCBEA, R344. -/
  | set5D
  /-- `SET 5,E`, 0xCBEB, R344. -/
  | set5E
  /-- `SET 5,H`, 0xCBEC, R344. -/
  | set5H
  /-- `SET 5,L`, 0xCBED, R344. -/
  | set5L
  /-- `SET 5,(HL)`, 0xCBEE, R345. -/
  | set5AtHl
  /-- `SET 5,A`, 0xCBEF, R344. -/
  | set5A
  /-- `SET 6,B`, 0xCBF0, R344. -/
  | set6B
  /-- `SET 6,C`, 0xCBF1, R344. -/
  | set6C
  /-- `SET 6,D`, 0xCBF2, R344. -/
  | set6D
  /-- `SET 6,E`, 0xCBF3, R344. -/
  | set6E
  /-- `SET 6,H`, 0xCBF4, R344. -/
  | set6H
  /-- `SET 6,L`, 0xCBF5, R344. -/
  | set6L
  /-- `SET 6,(HL)`, 0xCBF6, R345. -/
  | set6AtHl
  /-- `SET 6,A`, 0xCBF7, R344. -/
  | set6A
  /-- `SET 7,B`, 0xCBF8, R344. -/
  | set7B
  /-- `SET 7,C`, 0xCBF9, R344. -/
  | set7C
  /-- `SET 7,D`, 0xCBFA, R344. -/
  | set7D
  /-- `SET 7,E`, 0xCBFB, R344. -/
  | set7E
  /-- `SET 7,H`, 0xCBFC, R344. -/
  | set7H
  /-- `SET 7,L`, 0xCBFD, R344. -/
  | set7L
  /-- `SET 7,(HL)`, 0xCBFE, R345. -/
  | set7AtHl
  /-- `SET 7,A`, 0xCBFF, R344. -/
  | set7A
  /-- `illegal`, 0xD3, R377. -/
  | illegalD3
  /-- `illegal`, 0xDB, R377. -/
  | illegalDB
  /-- `illegal`, 0xDD, R377. -/
  | illegalDD
  /-- `illegal`, 0xE3, R377. -/
  | illegalE3
  /-- `illegal`, 0xE4, R377. -/
  | illegalE4
  /-- `illegal`, 0xEB, R377. -/
  | illegalEB
  /-- `illegal`, 0xEC, R377. -/
  | illegalEC
  /-- `illegal`, 0xED, R377. -/
  | illegalED
  /-- `illegal`, 0xF4, R377. -/
  | illegalF4
  /-- `illegal`, 0xFC, R377. -/
  | illegalFC
  /-- `illegal`, 0xFD, R377. -/
  | illegalFD
  deriving DecidableEq, Repr

end Sys2Proof
end

