-- ==== Sys2Proof/WellFormed.lean ====
section
/-! DEFINITION. Which terms of Instr are instructions. Every immediate has exactly the width its encoding gives it and every
register, condition and bit number is part of the constructor, so the one check left is 30_encoding.md R140 and R141: the eleven
illegal opcodes are rows of the table but spell no instruction. -/
namespace Sys2Proof

/-- The term is one of the 500 defined instructions (R140); an illegal opcode's row is not (R141). -/
def Instr.wellFormed : Instr → Bool
  | .illegalD3 | .illegalDB | .illegalDD | .illegalE3 | .illegalE4 | .illegalEB => false
  | .illegalEC | .illegalED | .illegalF4 | .illegalFC | .illegalFD => false
  | _ => true

end Sys2Proof
end

