-- ==== Sys2Proof/Config.lean ====
section
/-! DEFINITION. The named parameters of 00_scope.md R10 and R11, as plain data that State holds, and the free values of the
machine. A parameter is fixed for a machine and no step changes it; a free value is an opaque constant without a body. -/
namespace Sys2Proof

/-- `EI_DELAY` (47_cpu_control.md R375): 0, or 1 (the default). -/
inductive EiDelay where
  | zero
  | one
  deriving DecidableEq, Repr

/-- `MODE3_LEN` (60_exceptions.md R441): one constant for every line, or a function of the scanline and of the machine state when
mode 3 begins (the data-dependent case; notes/assumptions/5.md). -/
inductive Mode3Policy where
  | constant (n : Nat)
  | dependent
  deriving DecidableEq, Repr

/-- `SPRITE_ORDER` (60_exceptions.md R456). -/
inductive SpriteOrder where
  | laterWins
  | earlierWins
  deriving DecidableEq, Repr

/-- The parameters. `leftOut` lists the defined opcodes that are NOT in `IMPLEMENTED` (R10), a prefixed one as 0xCB00 plus its
second byte; STOP and the illegal opcodes are never in it and need no entry (notes/assumptions/2.md). -/
structure Params where
  leftOut     : List (BitVec 16)
  eiDelay     : EiDelay
  mode3       : Mode3Policy
  spriteOrder : SpriteOrder
  obp0Reset   : Byte
  obp1Reset   : Byte
  deriving DecidableEq, Repr

/-- The values decided in 92_eei_decisions.md (D27, D31, D36, D41), and for `IMPLEMENTED`, which D2 leaves open, every defined
opcode but STOP. DESIGN CHOICE: notes/assumptions/1.md and 2.md. -/
def Params.default : Params where
  leftOut     := []
  eiDelay     := .one
  mode3       := .constant 172
  spriteOrder := .laterWins
  obp0Reset   := 0xFF#8
  obp1Reset   := 0xFF#8

/-- `MODE3_LEN` has a value in 1..375 (R441). -/
def Params.wf (p : Params) : Bool :=
  match p.mode3 with
  | .constant n => decide (1 ≤ n ∧ n ≤ 375)
  | .dependent  => true

/-- `DivDraw` (60_exceptions.md R470): the byte the n-th read of DIV draws, under no law (notes/assumptions/4.md). -/
opaque Config.divDraw : Nat → Byte

/-- The button states the host reports at its n-th unscripted frame yield, one bit a button (R465; notes/assumptions/6.md). -/
opaque Config.buttonsDraw : Nat → Byte

end Sys2Proof
end

