-- ==== Sys2Proof/Machine/State.lean ====
section
/-! DEFINITION. Everything 10_state.md gives the machine, as plain data, and the state after reset. -/
namespace Sys2Proof.Machine

/-- The four flags of `F` (10_state.md R33). Only they are stored: bits 3 to 0 of `F` are always zero (R34, 90_conflicts.md C3). -/
structure Flags where
  z : Bool
  n : Bool
  h : Bool
  c : Bool
  deriving DecidableEq, Repr

/-- The register file (R30): seven 8-bit registers, the flags, SP and PC. The pairs are views (R31). -/
structure Regs where
  a  : Byte
  f  : Flags
  b  : Byte
  c  : Byte
  d  : Byte
  e  : Byte
  h  : Byte
  l  : Byte
  sp : Word
  pc : Word
  deriving DecidableEq, Repr

/-- The record of a fatal stop: the opcode value and the address of its first byte (R41, 60_exceptions.md R421). -/
structure FatalRecord where
  op : BitVec 16
  pc : Word
  deriving DecidableEq, Repr

/-- CPU control state (R38 to R41). `imeDelay` is in 0..2. -/
structure Control where
  ime      : Bool
  imeDelay : Nat
  halted   : Bool
  fatal    : Option FatalRecord
  deriving DecidableEq, Repr

/-- The interrupt controller's registers `IE` (R42) and `IF` (R43, five stored bits). -/
structure Irq where
  ie    : Byte
  flags : BitVec 5
  deriving DecidableEq, Repr

/-- The stored I/O registers (R44 to R50): `sel` is `P1[5:4]`, `statSel` is `STAT[6:3]`, `dma` the DMA latch. -/
structure IoRegs where
  sel     : BitVec 2
  lcdc    : Byte
  statSel : BitVec 4
  scy     : Byte
  scx     : Byte
  lyc     : Byte
  dma     : Byte
  bgp     : Byte
  obp0    : Byte
  obp1    : Byte
  wy      : Byte
  wx      : Byte
  deriving DecidableEq, Repr

/-- The PPU mode (R52): numbers 0 to 3 in this order. -/
inductive PpuMode where
  | hblank | vblank | oamScan | transfer
  deriving DecidableEq, Repr

/-- The frame buffer (R52): rows of shades. -/
abbrev FrameBuffer := List (List Shade)

/-- PPU internal state (R52), with `mode3Len`, the model's own latch of `MODE3_LEN` for the current line
(notes/assumptions/5.md). -/
structure Ppu where
  ly       : Nat
  dot      : Nat
  mode     : PpuMode
  mode3Len : Nat
  fb       : FrameBuffer
  deriving DecidableEq, Repr

/-- The backed memory (R53: ROM, VRAM, WRAM, OAM, HRAM) by address, in canonical form: addresses strictly rising, and no
entry equal to what an unlisted backed address reads as. -/
abbrev Memory := List Host.Cell

/-- The latch of the host's button state, true when pressed (R55). -/
structure Buttons where
  right  : Bool
  left   : Bool
  up     : Bool
  down   : Bool
  a      : Bool
  b      : Bool
  select : Bool
  start  : Bool
  deriving DecidableEq, Repr

/-- What the host does at one frame yield (60_exceptions.md R481 to R483): nothing, a report of the buttons, a reset, a stop. -/
inductive HostAction where
  | resume
  | report (b : Buttons)
  | reset
  | stop
  deriving DecidableEq, Repr

/-- The outside world as the machine meets it; the model's own fields (INVENTORY.md, State). `divInject` holds substituted
DivDraw bytes and `divPos`, `buttonsPos` the positions in the free streams of Config; `yields` holds the host's
actions, one per frame yield, and `stopped` says that a stop was requested (notes/assumptions/4.md to 7.md). -/
structure External where
  divInject  : List Byte
  divPos     : Nat
  yields     : List HostAction
  buttonsPos : Nat
  stopped    : Bool
  deriving DecidableEq, Repr

/-- The pair a step returns (60_exceptions.md R400). -/
structure StepOut where
  cycles        : Nat
  frameComplete : Bool
  deriving DecidableEq, Repr

/-- The machine's state. `out` is what the last step returned: none, or its cycles and whether a frame completed
(10_state.md R56; notes/assumptions/8.md). -/
structure State where
  regs    : Regs
  ctl     : Control
  irq     : Irq
  io      : IoRegs
  ppu     : Ppu
  mem     : Memory
  buttons : Buttons
  params  : Params
  ext     : External
  out     : Option StepOut
  deriving DecidableEq, Repr

/-- Why a step has no next state. -/
inductive Fault where
  /-- Raised by `step` when the machine stands in the fatal state and the host does not reset it: R403, every step returns none
  and changes nothing. Safe: the machine itself is stopped for good. -/
  | fatalStop (op : BitVec 16) (pc : Word)
  /-- Raised by `step` after the host's stop request: R482, the facade has released its state with no further contract. Safe: no
  machine is left that could go on. -/
  | hostStopped
  deriving DecidableEq, Repr

/-- Why an instruction has no meaning. -/
inductive Refusal where
  /-- Raised by an arm of `exec` whose instruction has no meaning yet; no arm of this model raises it. Safe: nothing is claimed
  of such an instruction. -/
  | notModelled (mnemonic : String)
  deriving DecidableEq, Repr

/-- All buttons released (10_state.md R62). -/
def Buttons.released : Buttons := ⟨false, false, false, false, false, false, false, false⟩

/-- The frame buffer after reset: 144 rows of 160 pixels of shade 0 (R60). -/
def FrameBuffer.blank : FrameBuffer := List.replicate 144 (List.replicate 160 0#2)

/-- The outside world before anything has happened: no byte substituted, no draw made, no action queued. DESIGN CHOICE,
notes/assumptions/4.md to 7.md. -/
def External.initial : External := ⟨[], 0, [], 0, false⟩

/-- Every piece of state at its reset value (10_state.md R57 to R62), for a machine with the parameters `p`, the cartridge image
`rom` in its ROM and the outside world `x`; the RAM arrays are zero. -/
def State.resetWith (p : Params) (rom : Memory) (x : External) : State where
  regs :=
    { a := 0x01#8, f := ⟨true, false, true, true⟩, b := 0x00#8, c := 0x13#8, d := 0x00#8, e := 0xD8#8,
      h := 0x01#8, l := 0x4D#8, sp := 0xFFFE#16, pc := 0x0100#16 }
  ctl := { ime := false, imeDelay := 0, halted := false, fatal := none }
  irq := { ie := 0x00#8, flags := 0b00001#5 }
  io :=
    { sel := 0b00#2, lcdc := 0x91#8, statSel := 0b0000#4, scy := 0x00#8, scx := 0x00#8, lyc := 0x00#8, dma := 0xFF#8,
      bgp := 0xFC#8, obp0 := p.obp0Reset, obp1 := p.obp1Reset, wy := 0x00#8, wx := 0x00#8 }
  ppu := { ly := 0, dot := 0, mode := .oamScan, mode3Len := 172, fb := FrameBuffer.blank }
  mem := rom
  buttons := Buttons.released
  params := p
  ext := x
  out := none

/-- The machine right after reset, with the decided parameters and a blank cartridge (notes/assumptions/1.md to 3.md). -/
def State.reset : State := State.resetWith Params.default [] External.initial

end Sys2Proof.Machine

namespace Sys2Proof

/-- The raw value behind a data-dependent pixel-transfer length: one free function of the scanline and of the machine state when
mode 3 begins (60_exceptions.md R441; notes/assumptions/5.md). It stands here because it needs the type of the state. -/
opaque Config.mode3Raw : Nat → Machine.State → Nat

end Sys2Proof
end

