-- ==== Sys2Proof/Machine/Memory.lean ====
section
/-! DEFINITION. The backed memory as a list of cells in canonical form: reading, writing, and the form itself
(10_state.md R53, R61; 20_memory.md R70). -/
namespace Sys2Proof.Machine

/-- What a backed address reads as when no cell is listed for it: RAM is zero from reset (10_state.md R61), and the blank
cartridge's bytes are zero (notes/assumptions/3.md). -/
def Memory.unlisted : Byte := 0x00#8

/-- The byte stored at the address `k`. -/
def Memory.get : Memory → Nat → Byte
  | [], _ => Memory.unlisted
  | (j, v) :: m, k => if j = k then v else Memory.get m k

/-- The cell `(k, v)` before the cells `m`, left out where it says what an unlisted address reads as. -/
def Memory.cons (k : Nat) (v : Byte) (m : Memory) : Memory :=
  if v = Memory.unlisted then m else (k, v) :: m

/-- Memory with the byte `v` at the address `k`, in canonical form again. -/
def Memory.put (k : Nat) (v : Byte) : Memory → Memory
  | [] => Memory.cons k v []
  | (j, u) :: m =>
    if k < j then Memory.cons k v ((j, u) :: m)
    else if k = j then Memory.cons k v m
    else (j, u) :: Memory.put k v m

/-- The addresses that an array of 10_state.md R53 backs (20_memory.md R70): ROM and VRAM, WRAM, OAM, HRAM. -/
def backed (k : Nat) : Bool :=
  decide (k < 0xA000) || decide (0xC000 ≤ k ∧ k < 0xE000) || decide (0xFE00 ≤ k ∧ k < 0xFEA0) ||
    decide (0xFF80 ≤ k ∧ k < 0xFFFF)

/-- The canonical form from the address `start` on. -/
def Memory.wfFrom (start : Nat) : Memory → Bool
  | [] => true
  | (j, v) :: m => decide (start ≤ j) && backed j && decide (v ≠ Memory.unlisted) && Memory.wfFrom (j + 1) m

/-- The canonical form: addresses strictly rising and backed, no cell that says what an unlisted address reads as. -/
def Memory.wf (m : Memory) : Bool := Memory.wfFrom 0 m

/-- The cells of a cartridge image, byte `i` at offset `i` (70_reset_and_hazards.md R501), from the offset `k` on. -/
def Memory.ofImage (k : Nat) : List Byte → Memory
  | [] => []
  | v :: r => Memory.cons k v (Memory.ofImage (k + 1) r)

/-- The ROM part of memory: the image a reset keeps (70_reset_and_hazards.md R502). -/
def Memory.romPart (m : Memory) : Memory := m.filter (fun cell => decide (cell.1 < 0x8000))

end Sys2Proof.Machine
end

