-- ==== Sys2Proof/Machine/Bus.lean ====
section
/-! DEFINITION. The memory dispatcher (20_memory.md): the regions of the address space, the I/O register window, reading and
writing one byte, and the OAM copy. -/
namespace Sys2Proof.Machine

/-- The ten rows of the map of R70. -/
inductive Region where
  | rom | vram | cartRam | wram | echo | oam | unusable | io | hram | ie
  deriving DecidableEq, Repr

/-- The row of R70 that contains the address. -/
def regionOf (a : Word) : Region :=
  let k := a.toNat
  if k < 0x8000 then .rom
  else if k < 0xA000 then .vram
  else if k < 0xC000 then .cartRam
  else if k < 0xE000 then .wram
  else if k < 0xFE00 then .echo
  else if k < 0xFEA0 then .oam
  else if k < 0xFF00 then .unusable
  else if k < 0xFF80 then .io
  else if k < 0xFFFF then .hram
  else .ie

/-- The implemented registers of the I/O window (R84). -/
inductive IoReg where
  | p1 | div | iflag | lcdc | stat | scy | scx | ly | lyc | dma | bgp | obp0 | obp1 | wy | wx
  deriving DecidableEq, Repr

/-- The register at an offset of the I/O window; none where the table of R84 lists no implemented one. -/
def ioRegAt (offset : Nat) : Option IoReg :=
  match offset with
  | 0x00 => some .p1
  | 0x04 => some .div
  | 0x0F => some .iflag
  | 0x40 => some .lcdc
  | 0x41 => some .stat
  | 0x42 => some .scy
  | 0x43 => some .scx
  | 0x44 => some .ly
  | 0x45 => some .lyc
  | 0x46 => some .dma
  | 0x47 => some .bgp
  | 0x48 => some .obp0
  | 0x49 => some .obp1
  | 0x4A => some .wy
  | 0x4B => some .wx
  | _    => none

/-- The open-bus value (R82). -/
def openBus : Byte := 0xFF#8

/-- The address of DIV, the one read that is a draw (R80, R84). -/
def divAddr : Word := 0xFF04#16

/-- Four bits, bit 0 first. -/
def bits4 (b0 b1 b2 b3 : Bool) : BitVec 4 :=
  BitVec.ofBool b3 ++ BitVec.ofBool b2 ++ BitVec.ofBool b1 ++ BitVec.ofBool b0

/-- The value read from P1 (60_exceptions.md R466): bits 7 and 6 set, the select bits, and the pressed buttons of every selected
group active low. -/
def p1Value (sel : BitVec 2) (b : Buttons) : Byte :=
  let dir := bits4 b.right b.left b.up b.down
  let act := bits4 b.a b.b b.select b.start
  let g0  := if sel.getLsbD 0 then 0xF#4 else 0xF#4 ^^^ dir
  let g1  := if sel.getLsbD 1 then 0xF#4 else 0xF#4 ^^^ act
  0b11#2 ++ sel ++ (g0 &&& g1)

/-- The mode number of STAT bits 1 to 0 (10_state.md R45, R52). -/
def PpuMode.bits : PpuMode → BitVec 2
  | .hblank   => 0#2
  | .vblank   => 1#2
  | .oamScan  => 2#2
  | .transfer => 3#2

/-- The value read from STAT (R84): bit 7 set, bits 6 to 3 stored, bit 2 LY == LYC, bits 1 to 0 the mode. -/
def statValue (s : State) : Byte :=
  1#1 ++ s.io.statSel ++ BitVec.ofBool (decide (s.ppu.ly = s.io.lyc.toNat)) ++ s.ppu.mode.bits

/-- The byte the next read of DIV draws: the next substituted byte, else the next free one (60_exceptions.md R470). -/
def State.nextDraw (s : State) : Byte :=
  match s.ext.divInject with
  | v :: _ => v
  | []     => Config.divDraw s.ext.divPos

/-- The draw consumed. -/
def State.consumeDraw (s : State) : State :=
  match s.ext.divInject with
  | _ :: r => { s with ext := { s.ext with divInject := r } }
  | []     => { s with ext := { s.ext with divPos := s.ext.divPos + 1 } }

/-- The read column of R84. -/
def State.readIo (s : State) : Option IoReg → Byte
  | some .p1    => p1Value s.io.sel s.buttons
  | some .div   => s.nextDraw
  | some .iflag => 0b111#3 ++ s.irq.flags
  | some .lcdc  => s.io.lcdc
  | some .stat  => statValue s
  | some .scy   => s.io.scy
  | some .scx   => s.io.scx
  | some .ly    => BitVec.ofNat 8 s.ppu.ly
  | some .lyc   => s.io.lyc
  | some .dma   => s.io.dma
  | some .bgp   => s.io.bgp
  | some .obp0  => s.io.obp0
  | some .obp1  => s.io.obp1
  | some .wy    => s.io.wy
  | some .wx    => s.io.wx
  | none        => openBus

/-- `MemRead(a, 1)`: the byte the dispatcher answers (R80). -/
def State.readByte (s : State) (a : Word) : Byte :=
  match regionOf a with
  | .rom      => s.mem.get a.toNat
  | .vram     => s.mem.get a.toNat
  | .cartRam  => openBus
  | .wram     => s.mem.get a.toNat
  | .echo     => openBus
  | .oam      => s.mem.get a.toNat
  | .unusable => openBus
  | .io       => s.readIo (ioRegAt (a.toNat - 0xFF00))
  | .hram     => s.mem.get a.toNat
  | .ie       => s.irq.ie

/-- The state after `MemRead(a, 1)`: no read changes any state (R80, R87), but a read of DIV consumes a draw (R470). -/
def State.afterRead (s : State) (a : Word) : State := if a = divAddr then s.consumeDraw else s

/-- The byte `v` stored in the array that backs the address `k`. -/
def State.store (s : State) (k : Nat) (v : Byte) : State := { s with mem := s.mem.put k v }

/-- Byte `i` of the OAM copy: `OAM[i] <- MemRead((v << 8) + i, 1)` (R90). -/
def State.copyToOam (s : State) (v : Byte) (i : Nat) : State :=
  let a : Word := cat v (BitVec.ofNat 8 i)
  (s.afterRead a).store (0xFE00 + i) (s.readByte a)

/-- The OAM copy: 160 bytes, in order (R90). -/
def State.oamCopy (s : State) (v : Byte) : State :=
  (List.range 160).foldl (fun t i => t.copyToOam v i) s

/-- The write column of R84. -/
def State.writeIo (s : State) (r : Option IoReg) (v : Byte) : State :=
  match r with
  | some .p1    => { s with io := { s.io with sel := v.extractLsb' 4 2 } }
  | some .div   => s
  | some .iflag => { s with irq := { s.irq with flags := v.extractLsb' 0 5 } }
  | some .lcdc  => { s with io := { s.io with lcdc := v } }
  | some .stat  => { s with io := { s.io with statSel := v.extractLsb' 3 4 } }
  | some .scy   => { s with io := { s.io with scy := v } }
  | some .scx   => { s with io := { s.io with scx := v } }
  | some .ly    => s
  | some .lyc   => { s with io := { s.io with lyc := v } }
  | some .dma   => State.oamCopy { s with io := { s.io with dma := v } } v
  | some .bgp   => { s with io := { s.io with bgp := v } }
  | some .obp0  => { s with io := { s.io with obp0 := v } }
  | some .obp1  => { s with io := { s.io with obp1 := v } }
  | some .wy    => { s with io := { s.io with wy := v } }
  | some .wx    => { s with io := { s.io with wx := v } }
  | none        => s

/-- `MemWrite(a, 1, v)`: what the dispatcher does with the byte (R81). -/
def State.writeByte (s : State) (a : Word) (v : Byte) : State :=
  match regionOf a with
  | .rom      => s
  | .vram     => s.store a.toNat v
  | .cartRam  => s
  | .wram     => s.store a.toNat v
  | .echo     => s
  | .oam      => s.store a.toNat v
  | .unusable => s
  | .io       => s.writeIo (ioRegAt (a.toNat - 0xFF00)) v
  | .hram     => s.store a.toNat v
  | .ie       => { s with irq := { s.irq with ie := v } }

end Sys2Proof.Machine
end

