-- ==== Sys2Proof/Machine/Flags.lean ====
section
/-! DEFINITION. `F` as a byte, and every flag computation of files 42 to 45. -/
namespace Sys2Proof.Machine

/-- `F` as the byte PUSH AF stores: Z N H C in bits 7 to 4, bits 3 to 0 zero (10_state.md R33, R34). -/
def Flags.toByte (f : Flags) : Byte :=
  BitVec.ofBool f.z ++ BitVec.ofBool f.n ++ BitVec.ofBool f.h ++ BitVec.ofBool f.c ++ 0#4

/-- `F` from a data byte: bits 3 to 0 are discarded (R34, 41_load16.md R237). -/
def Flags.ofByte (v : Byte) : Flags :=
  ⟨v.getLsbD 7, v.getLsbD 6, v.getLsbD 5, v.getLsbD 4⟩

/-- The result of an 8-bit operation. -/
structure AluResult where
  value : Byte
  flags : Flags
  deriving DecidableEq, Repr

/-- `add8` (42_alu8.md R250). -/
def add8 (a v : Byte) (cin : Bool) : AluResult :=
  let s := a.toNat + v.toNat + cin.toNat
  let value := BitVec.ofNat 8 s
  { value
    flags :=
      { z := decide (value = 0#8)
        n := false
        h := decide (a.toNat % 16 + v.toNat % 16 + cin.toNat > 0x0F)
        c := decide (s > 0xFF) } }

/-- `sub8` (R250): the difference is computed in the integers. -/
def sub8 (a v : Byte) (cin : Bool) : AluResult :=
  let value := BitVec.ofInt 8 ((a.toNat : Int) - v.toNat - cin.toNat)
  { value
    flags :=
      { z := decide (value = 0#8)
        n := true
        h := decide (a.toNat % 16 < v.toNat % 16 + cin.toNat)
        c := decide (a.toNat < v.toNat + cin.toNat) } }

/-- The flags of the logical operations: N and C clear, H as the operation says (R263, R266, R269; 90_conflicts.md C9). -/
def logic8 (value : Byte) (h : Bool) : AluResult :=
  { value, flags := { z := decide (value = 0#8), n := false, h, c := false } }

/-- The operation on A: its result and its flags (R251 to R274). CP's value is A, which it does not write. -/
def alu8 (op : AluOp) (a v : Byte) (cin : Bool) : AluResult :=
  match op with
  | .add => add8 a v false
  | .adc => add8 a v cin
  | .sub => sub8 a v false
  | .sbc => sub8 a v cin
  | .and => logic8 (a &&& v) true
  | .xor => logic8 (a ^^^ v) false
  | .or  => logic8 (a ||| v) false
  | .cp  => { value := a, flags := (sub8 a v false).flags }

/-- `INC` of a byte: C is kept (R275). -/
def inc8 (v : Byte) (f : Flags) : AluResult :=
  let r := v + 1#8
  { value := r, flags := { z := decide (r = 0#8), n := false, h := decide (v.toNat % 16 = 0x0F), c := f.c } }

/-- `DEC` of a byte: C is kept (R277). -/
def dec8 (v : Byte) (f : Flags) : AluResult :=
  let r := v + 255#8
  { value := r, flags := { z := decide (r = 0#8), n := true, h := decide (v.toNat % 16 = 0x00), c := f.c } }

/-- `DAA` (R279). -/
def daa8 (a : Byte) (f : Flags) : AluResult :=
  if f.n then
    let a1 := if f.c then a + 0xA0#8 else a
    let a2 := if f.h then a1 + 0xFA#8 else a1
    { value := a2, flags := { z := decide (a2 = 0#8), n := f.n, h := false, c := f.c } }
  else
    let high := f.c || decide (a.toNat > 0x99)
    let a1 := if high then a + 0x60#8 else a
    let a2 := if f.h || decide (a1.toNat % 16 > 0x09) then a1 + 0x06#8 else a1
    { value := a2, flags := { z := decide (a2 = 0#8), n := f.n, h := false, c := high } }

/-- `ADD HL,rr` (43_alu16.md R300): the sum, and the flags with Z kept. -/
def add16 (h v : Word) (f : Flags) : Word × Flags :=
  (h + v,
   { z := f.z
     n := false
     h := decide (h.toNat % 4096 + v.toNat % 4096 > 0x0FFF)
     c := decide (h.toNat + v.toNat > 0xFFFF) })

/-- `SP + e8` (R303, 41_load16.md R233): the flags are those of the unsigned addition of the low bytes. -/
def addSigned (sp : Word) (u : Byte) : Word × Flags :=
  (sp + sext16 u,
   { z := false
     n := false
     h := decide (sp.toNat % 16 + u.toNat % 16 > 0x0F)
     c := decide (sp.toNat % 256 + u.toNat > 0xFF) })

/-- A bit as the byte 0x01 or 0x00. -/
def lowBit (b : Bool) : Byte := if b then 0x01#8 else 0x00#8

/-- A bit as the byte 0x80 or 0x00. -/
def highBit (b : Bool) : Byte := if b then 0x80#8 else 0x00#8

/-- The result `r` and the carry-out `co` of the shift group (44_rotate_shift.md R315 to R329) for the operand `v` and the old
carry. -/
def rotate8 (op : RotOp) (v : Byte) (c : Bool) : Byte × Bool :=
  match op with
  | .rlc  => (v <<< 1 ||| lowBit (v.getLsbD 7), v.getLsbD 7)
  | .rrc  => (v >>> 1 ||| highBit (v.getLsbD 0), v.getLsbD 0)
  | .rl   => (v <<< 1 ||| lowBit c, v.getLsbD 7)
  | .rr   => (v >>> 1 ||| highBit c, v.getLsbD 0)
  | .sla  => (v <<< 1, v.getLsbD 7)
  | .sra  => (v >>> 1 ||| (v &&& 0x80#8), v.getLsbD 0)
  | .swap => (v <<< 4 ||| v >>> 4, false)
  | .srl  => (v >>> 1, v.getLsbD 0)

/-- The prefixed form: `F <- {Z: r == 0, N: 0, H: 0, C: co}` (R314). -/
def shift8 (op : RotOp) (v : Byte) (f : Flags) : AluResult :=
  let r := rotate8 op v f.c
  { value := r.1, flags := { z := decide (r.1 = 0#8), n := false, h := false, c := r.2 } }

/-- The accumulator form: Z is 0 whatever the result (R310 to R313). -/
def shiftA (op : RotOp) (v : Byte) (f : Flags) : AluResult :=
  let r := rotate8 op v f.c
  { value := r.1, flags := { z := false, n := false, h := false, c := r.2 } }

/-- `2^b` as a byte (45_bit.md R342). -/
def bitMask (b : BitVec 3) : Byte := 0x01#8 <<< b.toNat

/-- `RES b`: the bit cleared, no flag written (R342). -/
def resBit (b : BitVec 3) (v : Byte) (f : Flags) : AluResult := { value := v &&& (0xFF#8 ^^^ bitMask b), flags := f }

/-- `SET b`: the bit set, no flag written (R344). -/
def setBit (b : BitVec 3) (v : Byte) (f : Flags) : AluResult := { value := v ||| bitMask b, flags := f }

/-- The flags of `BIT b` (R340): C is kept. -/
def bitFlags (b : BitVec 3) (v : Byte) (f : Flags) : Flags :=
  { z := !v.getLsbD b.toNat, n := false, h := true, c := f.c }

end Sys2Proof.Machine
end

