-- ==== Sys2Proof/Machine/Operands.lean ====
section
/-! DEFINITION. The operand forms of 30_encoding.md R135 to R138 over the register file. -/
namespace Sys2Proof.Machine

/-- The register that `R8` names (R135). -/
def Regs.get8 (g : Regs) : Reg8 → Byte
  | .b => g.b
  | .c => g.c
  | .d => g.d
  | .e => g.e
  | .h => g.h
  | .l => g.l
  | .a => g.a

/-- `R8[r] <- v` for a register. -/
def Regs.set8 (g : Regs) (r : Reg8) (v : Byte) : Regs :=
  match r with
  | .b => { g with b := v }
  | .c => { g with c := v }
  | .d => { g with d := v }
  | .e => { g with e := v }
  | .h => { g with h := v }
  | .l => { g with l := v }
  | .a => { g with a := v }

/-- `R16[p]` (R136); the pairs are views (10_state.md R31). -/
def Regs.getPair (g : Regs) : Pair → Word
  | .bc => cat g.b g.c
  | .de => cat g.d g.e
  | .hl => cat g.h g.l
  | .sp => g.sp

/-- `R16[p] <- v`: writing a pair writes both halves (R31). -/
def Regs.setPair (g : Regs) (p : Pair) (v : Word) : Regs :=
  match p with
  | .bc => { g with b := hi v, c := lo v }
  | .de => { g with d := hi v, e := lo v }
  | .hl => { g with h := hi v, l := lo v }
  | .sp => { g with sp := v }

/-- `R16S[p]` (R137). -/
def Regs.getStackPair (g : Regs) : StackPair → Word
  | .bc => cat g.b g.c
  | .de => cat g.d g.e
  | .hl => cat g.h g.l
  | .af => cat g.a g.f.toByte

/-- `R16S[p] <- v`; AF takes `lo(v) AND 0xF0` into F (R31, 41_load16.md R237). -/
def Regs.setStackPair (g : Regs) (p : StackPair) (v : Word) : Regs :=
  match p with
  | .bc => { g with b := hi v, c := lo v }
  | .de => { g with d := hi v, e := lo v }
  | .hl => { g with h := hi v, l := lo v }
  | .af => { g with a := hi v, f := Flags.ofByte (lo v) }

/-- `HL` (R31). -/
def Regs.hl (g : Regs) : Word := g.getPair .hl

/-- `CC[c]` (R138). -/
def Flags.holds (f : Flags) : Cond → Bool
  | .nz => !f.z
  | .z  => f.z
  | .nc => !f.c
  | .c  => f.c

/-- `HL`, the address of the `(HL)` operand. -/
def State.hl (s : State) : Word := s.regs.hl

/-- The state with the register file changed by `u`. -/
def State.mapRegs (s : State) (u : Regs → Regs) : State := { s with regs := u s.regs }

/-- The state with the flags `f`. -/
def State.setFlags (s : State) (f : Flags) : State := { s with regs := { s.regs with f := f } }

end Sys2Proof.Machine
end

