-- ==== Sys2Proof/Machine/Ops.lean ====
section
/-! DEFINITION. The operations the meanings share: ending an instruction, the stack primitives (00_scope.md R16), the fatal stop,
the interrupt request and the interrupt dispatch, and the return from it. -/
namespace Sys2Proof.Machine

/-- The three outcomes over this machine's types. -/
abbrev Outcome := Host.Outcome State Fault Refusal

/-- `PC <- v; cycles <- n`: a control transfer's end (46_control.md). -/
def State.jump (s : State) (v : Word) (n : Nat) : State :=
  { s with regs := { s.regs with pc := v }, out := some { cycles := n, frameComplete := false } }

/-- `next = (pc0 + len) mod 65536` (00_scope.md R17). -/
def State.nextPc (s : State) (len : Nat) : Word := s.regs.pc + BitVec.ofNat 16 len

/-- `PC <- next; cycles <- n`: every other instruction's end (R17). -/
def State.finish (s : State) (len n : Nat) : State := s.jump (s.nextPc len) n

/-- The state with SP set. -/
def State.setSp (s : State) (v : Word) : State := { s with regs := { s.regs with sp := v } }

/-- `R8[z] <- r; F <- flags` for a register operand of a prefixed instruction, where `u` gives `r` and the flags from the operand
and the old flags (44_rotate_shift.md R314, 45_bit.md R342, R344). -/
def changeReg (u : Byte → Flags → AluResult) (r : Reg8) (s : State) : State :=
  let v := u (s.regs.get8 r) s.regs.f
  (s.mapRegs fun g => { g.set8 r v.value with f := v.flags }).finish 2 8

/-- The read-modify-write of the byte at HL: it is read, then written, then the flags are set (R276, R278, R316 to R330, R343,
R345; 20_memory.md R97). -/
def modifyHl (u : Byte → Flags → AluResult) (len n : Nat) (s : State) : State :=
  let v := u (s.readByte s.hl) s.regs.f
  (((s.afterRead s.hl).writeByte s.hl v.value).setFlags v.flags).finish len n

/-- `Push16(v)` (R16): the high byte first, at SP - 1, then the low byte at SP - 2. -/
def State.push16 (s : State) (v : Word) : State :=
  let s1 := s.setSp (s.regs.sp - 1#16)
  let s2 := s1.writeByte s1.regs.sp (hi v)
  let s3 := s2.setSp (s2.regs.sp - 1#16)
  s3.writeByte s3.regs.sp (lo v)

/-- The value `Pop16()` returns (R16): the low byte at SP, then the high byte at SP + 1. -/
def State.popValue (s : State) : Word :=
  let l := s.readByte s.regs.sp
  let s1 := s.afterRead s.regs.sp
  cat (s1.readByte (s.regs.sp + 1#16)) l

/-- The state after `Pop16()` (R16). -/
def State.afterPop (s : State) : State :=
  ((s.afterRead s.regs.sp).afterRead (s.regs.sp + 1#16)).setSp (s.regs.sp + 2#16)

/-- `raise Fatal(op, pc0)` (60_exceptions.md R420): the record is set, PC stays, and the step returns none. -/
def State.raiseFatal (s : State) (op : BitVec 16) : State :=
  { s with ctl := { s.ctl with fatal := some { op := op, pc := s.regs.pc } }, out := none }

/-- `RequestInterrupt(bit)` (R405). -/
def State.requestInterrupt (s : State) (bit : Nat) : State :=
  { s with irq := { s.irq with flags := s.irq.flags ||| 1#5 <<< bit } }

/-- `IE AND IF AND 0x1F` (R401). -/
def State.enabledRequests (s : State) : BitVec 5 := s.irq.ie.extractLsb' 0 5 &&& s.irq.flags

/-- The pending check: `IME = 1` and `IE[0] = 1` and `IF[0] = 1` (R410). -/
def State.dispatchPending (s : State) : Bool := s.ctl.ime && s.irq.ie.getLsbD 0 && s.irq.flags.getLsbD 0

/-- `Dispatch()` (R411): the taking of the vertical-blank interrupt. The push comes first and may itself write IE. -/
def State.dispatchInterrupt (s : State) : State :=
  let s1 := s.push16 s.regs.pc
  State.jump
    { s1 with
      ctl := { s1.ctl with ime := false, imeDelay := 0 }
      irq := { s1.irq with flags := s1.irq.flags &&& 0b11110#5 } }
    0x0040#16 20

/-- The return from an interrupt handler, RETI (46_control.md R361): `PC <- Pop16(); IME <- 1; ime_delay <- 0`. -/
def State.returnFromInterrupt (s : State) : State :=
  let t := s.afterPop
  State.jump { t with ctl := { t.ctl with ime := true, imeDelay := 0 } } s.popValue 16

/-- `EndOfInstruction()` (60_exceptions.md R402). -/
def State.endOfInstruction (s : State) : State :=
  if s.ctl.imeDelay > 0 then
    let d := s.ctl.imeDelay - 1
    { s with ctl := { s.ctl with imeDelay := d, ime := if d = 0 then true else s.ctl.ime } }
  else s

end Sys2Proof.Machine
end

