-- ==== Sys2Proof/Machine/Alu16.lean ====
section
/-! DEFINITION. 16-bit arithmetic (43_alu16.md R300 to R303). -/
namespace Sys2Proof.Machine

/-- `ADD HL,rr` (R300). -/
def addHl (p : Pair) (s : State) : State :=
  let r := add16 s.hl (s.regs.getPair p) s.regs.f
  (s.mapRegs fun g => { g.setPair .hl r.1 with f := r.2 }).finish 1 8

/-- `R16[p] <- R16[p] + d`: `INC rr` (R301) and `DEC rr` (R302). -/
def stepPair (p : Pair) (d : Word) (s : State) : State := (s.mapRegs fun g => g.setPair p (g.getPair p + d)).finish 1 8

/-- `ADD SP,e8` (R303). -/
def addSp (u : Byte) (s : State) : State :=
  let r := addSigned s.regs.sp u
  (s.mapRegs fun g => { g with sp := r.1, f := r.2 }).finish 2 16

/-- `INC BC`, 0x03 (R301). -/
def execIncBc (s : State) : Outcome := .next (stepPair .bc 1#16 s)

/-- `ADD HL,BC`, 0x09 (R300). -/
def execAddHlBc (s : State) : Outcome := .next (addHl .bc s)

/-- `DEC BC`, 0x0B (R302). -/
def execDecBc (s : State) : Outcome := .next (stepPair .bc 0xFFFF#16 s)

/-- `INC DE`, 0x13 (R301). -/
def execIncDe (s : State) : Outcome := .next (stepPair .de 1#16 s)

/-- `ADD HL,DE`, 0x19 (R300). -/
def execAddHlDe (s : State) : Outcome := .next (addHl .de s)

/-- `DEC DE`, 0x1B (R302). -/
def execDecDe (s : State) : Outcome := .next (stepPair .de 0xFFFF#16 s)

/-- `INC HL`, 0x23 (R301). -/
def execIncHl (s : State) : Outcome := .next (stepPair .hl 1#16 s)

/-- `ADD HL,HL`, 0x29 (R300). -/
def execAddHlHl (s : State) : Outcome := .next (addHl .hl s)

/-- `DEC HL`, 0x2B (R302). -/
def execDecHl (s : State) : Outcome := .next (stepPair .hl 0xFFFF#16 s)

/-- `INC SP`, 0x33 (R301). -/
def execIncSp (s : State) : Outcome := .next (stepPair .sp 1#16 s)

/-- `ADD HL,SP`, 0x39 (R300). -/
def execAddHlSp (s : State) : Outcome := .next (addHl .sp s)

/-- `DEC SP`, 0x3B (R302). -/
def execDecSp (s : State) : Outcome := .next (stepPair .sp 0xFFFF#16 s)

/-- `ADD SP,e8`, 0xE8 (R303). -/
def execAddSpE8 (n : Byte) (s : State) : Outcome := .next (addSp n s)

end Sys2Proof.Machine
end

