-- ==== Sys2Proof/Machine/Alu8.lean ====
section
/-! DEFINITION. 8-bit arithmetic and logic (42_alu8.md R250 to R282), over the flag computations of Machine/Flags.lean. -/
namespace Sys2Proof.Machine

/-- The operation on A and the operand `v`: `A <- res.value; F <- res.flags` (R251 to R274). -/
def aluWith (op : AluOp) (v : Byte) (len n : Nat) (s : State) : State :=
  let r := alu8 op s.regs.a v s.regs.f.c
  (s.mapRegs fun g => { g with a := r.value, f := r.flags }).finish len n

/-- The register form. -/
def aluReg (op : AluOp) (r : Reg8) (s : State) : State := aluWith op (s.regs.get8 r) 1 4 s

/-- The `(HL)` form. -/
def aluHl (op : AluOp) (s : State) : State := aluWith op (s.readByte s.hl) 1 8 (s.afterRead s.hl)

/-- The `d8` form. -/
def aluImm (op : AluOp) (n : Byte) (s : State) : State := aluWith op n 2 8 s

/-- `INC r` (R275). -/
def incReg (r : Reg8) (s : State) : State :=
  let u := inc8 (s.regs.get8 r) s.regs.f
  (s.mapRegs fun g => { g.set8 r u.value with f := u.flags }).finish 1 4

/-- `DEC r` (R277). -/
def decReg (r : Reg8) (s : State) : State :=
  let u := dec8 (s.regs.get8 r) s.regs.f
  (s.mapRegs fun g => { g.set8 r u.value with f := u.flags }).finish 1 4

/-- `DAA` (R279). -/
def daa (s : State) : State :=
  let u := daa8 s.regs.a s.regs.f
  (s.mapRegs fun g => { g with a := u.value, f := u.flags }).finish 1 4

/-- `CPL` (R280). -/
def cpl (s : State) : State :=
  (s.mapRegs fun g => { g with a := g.a ^^^ 0xFF#8, f := { g.f with n := true, h := true } }).finish 1 4

/-- `SCF` (R281). -/
def scf (s : State) : State := (s.setFlags { s.regs.f with n := false, h := false, c := true }).finish 1 4

/-- `CCF` (R282). -/
def ccf (s : State) : State := (s.setFlags { s.regs.f with n := false, h := false, c := !s.regs.f.c }).finish 1 4

/-- `INC B`, 0x04 (R275). -/
def execIncB (s : State) : Outcome := .next (incReg .b s)

/-- `DEC B`, 0x05 (R277). -/
def execDecB (s : State) : Outcome := .next (decReg .b s)

/-- `INC C`, 0x0C (R275). -/
def execIncC (s : State) : Outcome := .next (incReg .c s)

/-- `DEC C`, 0x0D (R277). -/
def execDecC (s : State) : Outcome := .next (decReg .c s)

/-- `INC D`, 0x14 (R275). -/
def execIncD (s : State) : Outcome := .next (incReg .d s)

/-- `DEC D`, 0x15 (R277). -/
def execDecD (s : State) : Outcome := .next (decReg .d s)

/-- `INC E`, 0x1C (R275). -/
def execIncE (s : State) : Outcome := .next (incReg .e s)

/-- `DEC E`, 0x1D (R277). -/
def execDecE (s : State) : Outcome := .next (decReg .e s)

/-- `INC H`, 0x24 (R275). -/
def execIncH (s : State) : Outcome := .next (incReg .h s)

/-- `DEC H`, 0x25 (R277). -/
def execDecH (s : State) : Outcome := .next (decReg .h s)

/-- `DAA`, 0x27 (R279). -/
def execDaa (s : State) : Outcome := .next (daa s)

/-- `INC L`, 0x2C (R275). -/
def execIncL (s : State) : Outcome := .next (incReg .l s)

/-- `DEC L`, 0x2D (R277). -/
def execDecL (s : State) : Outcome := .next (decReg .l s)

/-- `CPL`, 0x2F (R280). -/
def execCpl (s : State) : Outcome := .next (cpl s)

/-- `INC (HL)`, 0x34 (R276). -/
def execIncAtHl (s : State) : Outcome := .next (modifyHl inc8 1 12 s)

/-- `DEC (HL)`, 0x35 (R278). -/
def execDecAtHl (s : State) : Outcome := .next (modifyHl dec8 1 12 s)

/-- `SCF`, 0x37 (R281). -/
def execScf (s : State) : Outcome := .next (scf s)

/-- `INC A`, 0x3C (R275). -/
def execIncA (s : State) : Outcome := .next (incReg .a s)

/-- `DEC A`, 0x3D (R277). -/
def execDecA (s : State) : Outcome := .next (decReg .a s)

/-- `CCF`, 0x3F (R282). -/
def execCcf (s : State) : Outcome := .next (ccf s)

/-- `ADD A,B`, 0x80 (R251). -/
def execAddAB (s : State) : Outcome := .next (aluReg .add .b s)

/-- `ADD A,C`, 0x81 (R251). -/
def execAddAC (s : State) : Outcome := .next (aluReg .add .c s)

/-- `ADD A,D`, 0x82 (R251). -/
def execAddAD (s : State) : Outcome := .next (aluReg .add .d s)

/-- `ADD A,E`, 0x83 (R251). -/
def execAddAE (s : State) : Outcome := .next (aluReg .add .e s)

/-- `ADD A,H`, 0x84 (R251). -/
def execAddAH (s : State) : Outcome := .next (aluReg .add .h s)

/-- `ADD A,L`, 0x85 (R251). -/
def execAddAL (s : State) : Outcome := .next (aluReg .add .l s)

/-- `ADD A,(HL)`, 0x86 (R252). -/
def execAddAAtHl (s : State) : Outcome := .next (aluHl .add s)

/-- `ADD A,A`, 0x87 (R251). -/
def execAddAA (s : State) : Outcome := .next (aluReg .add .a s)

/-- `ADC A,B`, 0x88 (R254). -/
def execAdcAB (s : State) : Outcome := .next (aluReg .adc .b s)

/-- `ADC A,C`, 0x89 (R254). -/
def execAdcAC (s : State) : Outcome := .next (aluReg .adc .c s)

/-- `ADC A,D`, 0x8A (R254). -/
def execAdcAD (s : State) : Outcome := .next (aluReg .adc .d s)

/-- `ADC A,E`, 0x8B (R254). -/
def execAdcAE (s : State) : Outcome := .next (aluReg .adc .e s)

/-- `ADC A,H`, 0x8C (R254). -/
def execAdcAH (s : State) : Outcome := .next (aluReg .adc .h s)

/-- `ADC A,L`, 0x8D (R254). -/
def execAdcAL (s : State) : Outcome := .next (aluReg .adc .l s)

/-- `ADC A,(HL)`, 0x8E (R255). -/
def execAdcAAtHl (s : State) : Outcome := .next (aluHl .adc s)

/-- `ADC A,A`, 0x8F (R254). -/
def execAdcAA (s : State) : Outcome := .next (aluReg .adc .a s)

/-- `SUB B`, 0x90 (R257). -/
def execSubB (s : State) : Outcome := .next (aluReg .sub .b s)

/-- `SUB C`, 0x91 (R257). -/
def execSubC (s : State) : Outcome := .next (aluReg .sub .c s)

/-- `SUB D`, 0x92 (R257). -/
def execSubD (s : State) : Outcome := .next (aluReg .sub .d s)

/-- `SUB E`, 0x93 (R257). -/
def execSubE (s : State) : Outcome := .next (aluReg .sub .e s)

/-- `SUB H`, 0x94 (R257). -/
def execSubH (s : State) : Outcome := .next (aluReg .sub .h s)

/-- `SUB L`, 0x95 (R257). -/
def execSubL (s : State) : Outcome := .next (aluReg .sub .l s)

/-- `SUB (HL)`, 0x96 (R258). -/
def execSubAtHl (s : State) : Outcome := .next (aluHl .sub s)

/-- `SUB A`, 0x97 (R257). -/
def execSubA (s : State) : Outcome := .next (aluReg .sub .a s)

/-- `SBC A,B`, 0x98 (R260). -/
def execSbcAB (s : State) : Outcome := .next (aluReg .sbc .b s)

/-- `SBC A,C`, 0x99 (R260). -/
def execSbcAC (s : State) : Outcome := .next (aluReg .sbc .c s)

/-- `SBC A,D`, 0x9A (R260). -/
def execSbcAD (s : State) : Outcome := .next (aluReg .sbc .d s)

/-- `SBC A,E`, 0x9B (R260). -/
def execSbcAE (s : State) : Outcome := .next (aluReg .sbc .e s)

/-- `SBC A,H`, 0x9C (R260). -/
def execSbcAH (s : State) : Outcome := .next (aluReg .sbc .h s)

/-- `SBC A,L`, 0x9D (R260). -/
def execSbcAL (s : State) : Outcome := .next (aluReg .sbc .l s)

/-- `SBC A,(HL)`, 0x9E (R261). -/
def execSbcAAtHl (s : State) : Outcome := .next (aluHl .sbc s)

/-- `SBC A,A`, 0x9F (R260). -/
def execSbcAA (s : State) : Outcome := .next (aluReg .sbc .a s)

/-- `AND B`, 0xA0 (R263). -/
def execAndB (s : State) : Outcome := .next (aluReg .and .b s)

/-- `AND C`, 0xA1 (R263). -/
def execAndC (s : State) : Outcome := .next (aluReg .and .c s)

/-- `AND D`, 0xA2 (R263). -/
def execAndD (s : State) : Outcome := .next (aluReg .and .d s)

/-- `AND E`, 0xA3 (R263). -/
def execAndE (s : State) : Outcome := .next (aluReg .and .e s)

/-- `AND H`, 0xA4 (R263). -/
def execAndH (s : State) : Outcome := .next (aluReg .and .h s)

/-- `AND L`, 0xA5 (R263). -/
def execAndL (s : State) : Outcome := .next (aluReg .and .l s)

/-- `AND (HL)`, 0xA6 (R264). -/
def execAndAtHl (s : State) : Outcome := .next (aluHl .and s)

/-- `AND A`, 0xA7 (R263). -/
def execAndA (s : State) : Outcome := .next (aluReg .and .a s)

/-- `XOR B`, 0xA8 (R266). -/
def execXorB (s : State) : Outcome := .next (aluReg .xor .b s)

/-- `XOR C`, 0xA9 (R266). -/
def execXorC (s : State) : Outcome := .next (aluReg .xor .c s)

/-- `XOR D`, 0xAA (R266). -/
def execXorD (s : State) : Outcome := .next (aluReg .xor .d s)

/-- `XOR E`, 0xAB (R266). -/
def execXorE (s : State) : Outcome := .next (aluReg .xor .e s)

/-- `XOR H`, 0xAC (R266). -/
def execXorH (s : State) : Outcome := .next (aluReg .xor .h s)

/-- `XOR L`, 0xAD (R266). -/
def execXorL (s : State) : Outcome := .next (aluReg .xor .l s)

/-- `XOR (HL)`, 0xAE (R267). -/
def execXorAtHl (s : State) : Outcome := .next (aluHl .xor s)

/-- `XOR A`, 0xAF (R266). -/
def execXorA (s : State) : Outcome := .next (aluReg .xor .a s)

/-- `OR B`, 0xB0 (R269). -/
def execOrB (s : State) : Outcome := .next (aluReg .or .b s)

/-- `OR C`, 0xB1 (R269). -/
def execOrC (s : State) : Outcome := .next (aluReg .or .c s)

/-- `OR D`, 0xB2 (R269). -/
def execOrD (s : State) : Outcome := .next (aluReg .or .d s)

/-- `OR E`, 0xB3 (R269). -/
def execOrE (s : State) : Outcome := .next (aluReg .or .e s)

/-- `OR H`, 0xB4 (R269). -/
def execOrH (s : State) : Outcome := .next (aluReg .or .h s)

/-- `OR L`, 0xB5 (R269). -/
def execOrL (s : State) : Outcome := .next (aluReg .or .l s)

/-- `OR (HL)`, 0xB6 (R270). -/
def execOrAtHl (s : State) : Outcome := .next (aluHl .or s)

/-- `OR A`, 0xB7 (R269). -/
def execOrA (s : State) : Outcome := .next (aluReg .or .a s)

/-- `CP B`, 0xB8 (R272). -/
def execCpB (s : State) : Outcome := .next (aluReg .cp .b s)

/-- `CP C`, 0xB9 (R272). -/
def execCpC (s : State) : Outcome := .next (aluReg .cp .c s)

/-- `CP D`, 0xBA (R272). -/
def execCpD (s : State) : Outcome := .next (aluReg .cp .d s)

/-- `CP E`, 0xBB (R272). -/
def execCpE (s : State) : Outcome := .next (aluReg .cp .e s)

/-- `CP H`, 0xBC (R272). -/
def execCpH (s : State) : Outcome := .next (aluReg .cp .h s)

/-- `CP L`, 0xBD (R272). -/
def execCpL (s : State) : Outcome := .next (aluReg .cp .l s)

/-- `CP (HL)`, 0xBE (R273). -/
def execCpAtHl (s : State) : Outcome := .next (aluHl .cp s)

/-- `CP A`, 0xBF (R272). -/
def execCpA (s : State) : Outcome := .next (aluReg .cp .a s)

/-- `ADD A,d8`, 0xC6 (R253). -/
def execAddAD8 (n : Byte) (s : State) : Outcome := .next (aluImm .add n s)

/-- `ADC A,d8`, 0xCE (R256). -/
def execAdcAD8 (n : Byte) (s : State) : Outcome := .next (aluImm .adc n s)

/-- `SUB d8`, 0xD6 (R259). -/
def execSubD8 (n : Byte) (s : State) : Outcome := .next (aluImm .sub n s)

/-- `SBC A,d8`, 0xDE (R262). -/
def execSbcAD8 (n : Byte) (s : State) : Outcome := .next (aluImm .sbc n s)

/-- `AND d8`, 0xE6 (R265). -/
def execAndD8 (n : Byte) (s : State) : Outcome := .next (aluImm .and n s)

/-- `XOR d8`, 0xEE (R268). -/
def execXorD8 (n : Byte) (s : State) : Outcome := .next (aluImm .xor n s)

/-- `OR d8`, 0xF6 (R271). -/
def execOrD8 (n : Byte) (s : State) : Outcome := .next (aluImm .or n s)

/-- `CP d8`, 0xFE (R274). -/
def execCpD8 (n : Byte) (s : State) : Outcome := .next (aluImm .cp n s)

end Sys2Proof.Machine
end

