-- ==== Sys2Proof/Machine/Bit.lean ====
section
/-! DEFINITION. Single-bit test, reset and set (45_bit.md R340 to R345). -/
namespace Sys2Proof.Machine

/-- `BIT b,r` (R340). -/
def bitReg (b : BitVec 3) (r : Reg8) (s : State) : State :=
  (s.setFlags (bitFlags b (s.regs.get8 r) s.regs.f)).finish 2 8

/-- `BIT b,(HL)` (R341): one read and no write. -/
def bitHl (b : BitVec 3) (s : State) : State :=
  ((s.afterRead s.hl).setFlags (bitFlags b (s.readByte s.hl) s.regs.f)).finish 2 12

/-- `BIT 0,B`, 0xCB40 (R340). -/
def execBit0B (s : State) : Outcome := .next (bitReg 0#3 .b s)

/-- `BIT 0,C`, 0xCB41 (R340). -/
def execBit0C (s : State) : Outcome := .next (bitReg 0#3 .c s)

/-- `BIT 0,D`, 0xCB42 (R340). -/
def execBit0D (s : State) : Outcome := .next (bitReg 0#3 .d s)

/-- `BIT 0,E`, 0xCB43 (R340). -/
def execBit0E (s : State) : Outcome := .next (bitReg 0#3 .e s)

/-- `BIT 0,H`, 0xCB44 (R340). -/
def execBit0H (s : State) : Outcome := .next (bitReg 0#3 .h s)

/-- `BIT 0,L`, 0xCB45 (R340). -/
def execBit0L (s : State) : Outcome := .next (bitReg 0#3 .l s)

/-- `BIT 0,(HL)`, 0xCB46 (R341). -/
def execBit0AtHl (s : State) : Outcome := .next (bitHl 0#3 s)

/-- `BIT 0,A`, 0xCB47 (R340). -/
def execBit0A (s : State) : Outcome := .next (bitReg 0#3 .a s)

/-- `BIT 1,B`, 0xCB48 (R340). -/
def execBit1B (s : State) : Outcome := .next (bitReg 1#3 .b s)

/-- `BIT 1,C`, 0xCB49 (R340). -/
def execBit1C (s : State) : Outcome := .next (bitReg 1#3 .c s)

/-- `BIT 1,D`, 0xCB4A (R340). -/
def execBit1D (s : State) : Outcome := .next (bitReg 1#3 .d s)

/-- `BIT 1,E`, 0xCB4B (R340). -/
def execBit1E (s : State) : Outcome := .next (bitReg 1#3 .e s)

/-- `BIT 1,H`, 0xCB4C (R340). -/
def execBit1H (s : State) : Outcome := .next (bitReg 1#3 .h s)

/-- `BIT 1,L`, 0xCB4D (R340). -/
def execBit1L (s : State) : Outcome := .next (bitReg 1#3 .l s)

/-- `BIT 1,(HL)`, 0xCB4E (R341). -/
def execBit1AtHl (s : State) : Outcome := .next (bitHl 1#3 s)

/-- `BIT 1,A`, 0xCB4F (R340). -/
def execBit1A (s : State) : Outcome := .next (bitReg 1#3 .a s)

/-- `BIT 2,B`, 0xCB50 (R340). -/
def execBit2B (s : State) : Outcome := .next (bitReg 2#3 .b s)

/-- `BIT 2,C`, 0xCB51 (R340). -/
def execBit2C (s : State) : Outcome := .next (bitReg 2#3 .c s)

/-- `BIT 2,D`, 0xCB52 (R340). -/
def execBit2D (s : State) : Outcome := .next (bitReg 2#3 .d s)

/-- `BIT 2,E`, 0xCB53 (R340). -/
def execBit2E (s : State) : Outcome := .next (bitReg 2#3 .e s)

/-- `BIT 2,H`, 0xCB54 (R340). -/
def execBit2H (s : State) : Outcome := .next (bitReg 2#3 .h s)

/-- `BIT 2,L`, 0xCB55 (R340). -/
def execBit2L (s : State) : Outcome := .next (bitReg 2#3 .l s)

/-- `BIT 2,(HL)`, 0xCB56 (R341). -/
def execBit2AtHl (s : State) : Outcome := .next (bitHl 2#3 s)

/-- `BIT 2,A`, 0xCB57 (R340). -/
def execBit2A (s : State) : Outcome := .next (bitReg 2#3 .a s)

/-- `BIT 3,B`, 0xCB58 (R340). -/
def execBit3B (s : State) : Outcome := .next (bitReg 3#3 .b s)

/-- `BIT 3,C`, 0xCB59 (R340). -/
def execBit3C (s : State) : Outcome := .next (bitReg 3#3 .c s)

/-- `BIT 3,D`, 0xCB5A (R340). -/
def execBit3D (s : State) : Outcome := .next (bitReg 3#3 .d s)

/-- `BIT 3,E`, 0xCB5B (R340). -/
def execBit3E (s : State) : Outcome := .next (bitReg 3#3 .e s)

/-- `BIT 3,H`, 0xCB5C (R340). -/
def execBit3H (s : State) : Outcome := .next (bitReg 3#3 .h s)

/-- `BIT 3,L`, 0xCB5D (R340). -/
def execBit3L (s : State) : Outcome := .next (bitReg 3#3 .l s)

/-- `BIT 3,(HL)`, 0xCB5E (R341). -/
def execBit3AtHl (s : State) : Outcome := .next (bitHl 3#3 s)

/-- `BIT 3,A`, 0xCB5F (R340). -/
def execBit3A (s : State) : Outcome := .next (bitReg 3#3 .a s)

/-- `BIT 4,B`, 0xCB60 (R340). -/
def execBit4B (s : State) : Outcome := .next (bitReg 4#3 .b s)

/-- `BIT 4,C`, 0xCB61 (R340). -/
def execBit4C (s : State) : Outcome := .next (bitReg 4#3 .c s)

/-- `BIT 4,D`, 0xCB62 (R340). -/
def execBit4D (s : State) : Outcome := .next (bitReg 4#3 .d s)

/-- `BIT 4,E`, 0xCB63 (R340). -/
def execBit4E (s : State) : Outcome := .next (bitReg 4#3 .e s)

/-- `BIT 4,H`, 0xCB64 (R340). -/
def execBit4H (s : State) : Outcome := .next (bitReg 4#3 .h s)

/-- `BIT 4,L`, 0xCB65 (R340). -/
def execBit4L (s : State) : Outcome := .next (bitReg 4#3 .l s)

/-- `BIT 4,(HL)`, 0xCB66 (R341). -/
def execBit4AtHl (s : State) : Outcome := .next (bitHl 4#3 s)

/-- `BIT 4,A`, 0xCB67 (R340). -/
def execBit4A (s : State) : Outcome := .next (bitReg 4#3 .a s)

/-- `BIT 5,B`, 0xCB68 (R340). -/
def execBit5B (s : State) : Outcome := .next (bitReg 5#3 .b s)

/-- `BIT 5,C`, 0xCB69 (R340). -/
def execBit5C (s : State) : Outcome := .next (bitReg 5#3 .c s)

/-- `BIT 5,D`, 0xCB6A (R340). -/
def execBit5D (s : State) : Outcome := .next (bitReg 5#3 .d s)

/-- `BIT 5,E`, 0xCB6B (R340). -/
def execBit5E (s : State) : Outcome := .next (bitReg 5#3 .e s)

/-- `BIT 5,H`, 0xCB6C (R340). -/
def execBit5H (s : State) : Outcome := .next (bitReg 5#3 .h s)

/-- `BIT 5,L`, 0xCB6D (R340). -/
def execBit5L (s : State) : Outcome := .next (bitReg 5#3 .l s)

/-- `BIT 5,(HL)`, 0xCB6E (R341). -/
def execBit5AtHl (s : State) : Outcome := .next (bitHl 5#3 s)

/-- `BIT 5,A`, 0xCB6F (R340). -/
def execBit5A (s : State) : Outcome := .next (bitReg 5#3 .a s)

/-- `BIT 6,B`, 0xCB70 (R340). -/
def execBit6B (s : State) : Outcome := .next (bitReg 6#3 .b s)

/-- `BIT 6,C`, 0xCB71 (R340). -/
def execBit6C (s : State) : Outcome := .next (bitReg 6#3 .c s)

/-- `BIT 6,D`, 0xCB72 (R340). -/
def execBit6D (s : State) : Outcome := .next (bitReg 6#3 .d s)

/-- `BIT 6,E`, 0xCB73 (R340). -/
def execBit6E (s : State) : Outcome := .next (bitReg 6#3 .e s)

/-- `BIT 6,H`, 0xCB74 (R340). -/
def execBit6H (s : State) : Outcome := .next (bitReg 6#3 .h s)

/-- `BIT 6,L`, 0xCB75 (R340). -/
def execBit6L (s : State) : Outcome := .next (bitReg 6#3 .l s)

/-- `BIT 6,(HL)`, 0xCB76 (R341). -/
def execBit6AtHl (s : State) : Outcome := .next (bitHl 6#3 s)

/-- `BIT 6,A`, 0xCB77 (R340). -/
def execBit6A (s : State) : Outcome := .next (bitReg 6#3 .a s)

/-- `BIT 7,B`, 0xCB78 (R340). -/
def execBit7B (s : State) : Outcome := .next (bitReg 7#3 .b s)

/-- `BIT 7,C`, 0xCB79 (R340). -/
def execBit7C (s : State) : Outcome := .next (bitReg 7#3 .c s)

/-- `BIT 7,D`, 0xCB7A (R340). -/
def execBit7D (s : State) : Outcome := .next (bitReg 7#3 .d s)

/-- `BIT 7,E`, 0xCB7B (R340). -/
def execBit7E (s : State) : Outcome := .next (bitReg 7#3 .e s)

/-- `BIT 7,H`, 0xCB7C (R340). -/
def execBit7H (s : State) : Outcome := .next (bitReg 7#3 .h s)

/-- `BIT 7,L`, 0xCB7D (R340). -/
def execBit7L (s : State) : Outcome := .next (bitReg 7#3 .l s)

/-- `BIT 7,(HL)`, 0xCB7E (R341). -/
def execBit7AtHl (s : State) : Outcome := .next (bitHl 7#3 s)

/-- `BIT 7,A`, 0xCB7F (R340). -/
def execBit7A (s : State) : Outcome := .next (bitReg 7#3 .a s)

/-- `RES 0,B`, 0xCB80 (R342). -/
def execRes0B (s : State) : Outcome := .next (changeReg (resBit 0#3) .b s)

/-- `RES 0,C`, 0xCB81 (R342). -/
def execRes0C (s : State) : Outcome := .next (changeReg (resBit 0#3) .c s)

/-- `RES 0,D`, 0xCB82 (R342). -/
def execRes0D (s : State) : Outcome := .next (changeReg (resBit 0#3) .d s)

/-- `RES 0,E`, 0xCB83 (R342). -/
def execRes0E (s : State) : Outcome := .next (changeReg (resBit 0#3) .e s)

/-- `RES 0,H`, 0xCB84 (R342). -/
def execRes0H (s : State) : Outcome := .next (changeReg (resBit 0#3) .h s)

/-- `RES 0,L`, 0xCB85 (R342). -/
def execRes0L (s : State) : Outcome := .next (changeReg (resBit 0#3) .l s)

/-- `RES 0,(HL)`, 0xCB86 (R343). -/
def execRes0AtHl (s : State) : Outcome := .next (modifyHl (resBit 0#3) 2 16 s)

/-- `RES 0,A`, 0xCB87 (R342). -/
def execRes0A (s : State) : Outcome := .next (changeReg (resBit 0#3) .a s)

/-- `RES 1,B`, 0xCB88 (R342). -/
def execRes1B (s : State) : Outcome := .next (changeReg (resBit 1#3) .b s)

/-- `RES 1,C`, 0xCB89 (R342). -/
def execRes1C (s : State) : Outcome := .next (changeReg (resBit 1#3) .c s)

/-- `RES 1,D`, 0xCB8A (R342). -/
def execRes1D (s : State) : Outcome := .next (changeReg (resBit 1#3) .d s)

/-- `RES 1,E`, 0xCB8B (R342). -/
def execRes1E (s : State) : Outcome := .next (changeReg (resBit 1#3) .e s)

/-- `RES 1,H`, 0xCB8C (R342). -/
def execRes1H (s : State) : Outcome := .next (changeReg (resBit 1#3) .h s)

/-- `RES 1,L`, 0xCB8D (R342). -/
def execRes1L (s : State) : Outcome := .next (changeReg (resBit 1#3) .l s)

/-- `RES 1,(HL)`, 0xCB8E (R343). -/
def execRes1AtHl (s : State) : Outcome := .next (modifyHl (resBit 1#3) 2 16 s)

/-- `RES 1,A`, 0xCB8F (R342). -/
def execRes1A (s : State) : Outcome := .next (changeReg (resBit 1#3) .a s)

/-- `RES 2,B`, 0xCB90 (R342). -/
def execRes2B (s : State) : Outcome := .next (changeReg (resBit 2#3) .b s)

/-- `RES 2,C`, 0xCB91 (R342). -/
def execRes2C (s : State) : Outcome := .next (changeReg (resBit 2#3) .c s)

/-- `RES 2,D`, 0xCB92 (R342). -/
def execRes2D (s : State) : Outcome := .next (changeReg (resBit 2#3) .d s)

/-- `RES 2,E`, 0xCB93 (R342). -/
def execRes2E (s : State) : Outcome := .next (changeReg (resBit 2#3) .e s)

/-- `RES 2,H`, 0xCB94 (R342). -/
def execRes2H (s : State) : Outcome := .next (changeReg (resBit 2#3) .h s)

/-- `RES 2,L`, 0xCB95 (R342). -/
def execRes2L (s : State) : Outcome := .next (changeReg (resBit 2#3) .l s)

/-- `RES 2,(HL)`, 0xCB96 (R343). -/
def execRes2AtHl (s : State) : Outcome := .next (modifyHl (resBit 2#3) 2 16 s)

/-- `RES 2,A`, 0xCB97 (R342). -/
def execRes2A (s : State) : Outcome := .next (changeReg (resBit 2#3) .a s)

/-- `RES 3,B`, 0xCB98 (R342). -/
def execRes3B (s : State) : Outcome := .next (changeReg (resBit 3#3) .b s)

/-- `RES 3,C`, 0xCB99 (R342). -/
def execRes3C (s : State) : Outcome := .next (changeReg (resBit 3#3) .c s)

/-- `RES 3,D`, 0xCB9A (R342). -/
def execRes3D (s : State) : Outcome := .next (changeReg (resBit 3#3) .d s)

/-- `RES 3,E`, 0xCB9B (R342). -/
def execRes3E (s : State) : Outcome := .next (changeReg (resBit 3#3) .e s)

/-- `RES 3,H`, 0xCB9C (R342). -/
def execRes3H (s : State) : Outcome := .next (changeReg (resBit 3#3) .h s)

/-- `RES 3,L`, 0xCB9D (R342). -/
def execRes3L (s : State) : Outcome := .next (changeReg (resBit 3#3) .l s)

/-- `RES 3,(HL)`, 0xCB9E (R343). -/
def execRes3AtHl (s : State) : Outcome := .next (modifyHl (resBit 3#3) 2 16 s)

/-- `RES 3,A`, 0xCB9F (R342). -/
def execRes3A (s : State) : Outcome := .next (changeReg (resBit 3#3) .a s)

/-- `RES 4,B`, 0xCBA0 (R342). -/
def execRes4B (s : State) : Outcome := .next (changeReg (resBit 4#3) .b s)

/-- `RES 4,C`, 0xCBA1 (R342). -/
def execRes4C (s : State) : Outcome := .next (changeReg (resBit 4#3) .c s)

/-- `RES 4,D`, 0xCBA2 (R342). -/
def execRes4D (s : State) : Outcome := .next (changeReg (resBit 4#3) .d s)

/-- `RES 4,E`, 0xCBA3 (R342). -/
def execRes4E (s : State) : Outcome := .next (changeReg (resBit 4#3) .e s)

/-- `RES 4,H`, 0xCBA4 (R342). -/
def execRes4H (s : State) : Outcome := .next (changeReg (resBit 4#3) .h s)

/-- `RES 4,L`, 0xCBA5 (R342). -/
def execRes4L (s : State) : Outcome := .next (changeReg (resBit 4#3) .l s)

/-- `RES 4,(HL)`, 0xCBA6 (R343). -/
def execRes4AtHl (s : State) : Outcome := .next (modifyHl (resBit 4#3) 2 16 s)

/-- `RES 4,A`, 0xCBA7 (R342). -/
def execRes4A (s : State) : Outcome := .next (changeReg (resBit 4#3) .a s)

/-- `RES 5,B`, 0xCBA8 (R342). -/
def execRes5B (s : State) : Outcome := .next (changeReg (resBit 5#3) .b s)

/-- `RES 5,C`, 0xCBA9 (R342). -/
def execRes5C (s : State) : Outcome := .next (changeReg (resBit 5#3) .c s)

/-- `RES 5,D`, 0xCBAA (R342). -/
def execRes5D (s : State) : Outcome := .next (changeReg (resBit 5#3) .d s)

/-- `RES 5,E`, 0xCBAB (R342). -/
def execRes5E (s : State) : Outcome := .next (changeReg (resBit 5#3) .e s)

/-- `RES 5,H`, 0xCBAC (R342). -/
def execRes5H (s : State) : Outcome := .next (changeReg (resBit 5#3) .h s)

/-- `RES 5,L`, 0xCBAD (R342). -/
def execRes5L (s : State) : Outcome := .next (changeReg (resBit 5#3) .l s)

/-- `RES 5,(HL)`, 0xCBAE (R343). -/
def execRes5AtHl (s : State) : Outcome := .next (modifyHl (resBit 5#3) 2 16 s)

/-- `RES 5,A`, 0xCBAF (R342). -/
def execRes5A (s : State) : Outcome := .next (changeReg (resBit 5#3) .a s)

/-- `RES 6,B`, 0xCBB0 (R342). -/
def execRes6B (s : State) : Outcome := .next (changeReg (resBit 6#3) .b s)

/-- `RES 6,C`, 0xCBB1 (R342). -/
def execRes6C (s : State) : Outcome := .next (changeReg (resBit 6#3) .c s)

/-- `RES 6,D`, 0xCBB2 (R342). -/
def execRes6D (s : State) : Outcome := .next (changeReg (resBit 6#3) .d s)

/-- `RES 6,E`, 0xCBB3 (R342). -/
def execRes6E (s : State) : Outcome := .next (changeReg (resBit 6#3) .e s)

/-- `RES 6,H`, 0xCBB4 (R342). -/
def execRes6H (s : State) : Outcome := .next (changeReg (resBit 6#3) .h s)

/-- `RES 6,L`, 0xCBB5 (R342). -/
def execRes6L (s : State) : Outcome := .next (changeReg (resBit 6#3) .l s)

/-- `RES 6,(HL)`, 0xCBB6 (R343). -/
def execRes6AtHl (s : State) : Outcome := .next (modifyHl (resBit 6#3) 2 16 s)

/-- `RES 6,A`, 0xCBB7 (R342). -/
def execRes6A (s : State) : Outcome := .next (changeReg (resBit 6#3) .a s)

/-- `RES 7,B`, 0xCBB8 (R342). -/
def execRes7B (s : State) : Outcome := .next (changeReg (resBit 7#3) .b s)

/-- `RES 7,C`, 0xCBB9 (R342). -/
def execRes7C (s : State) : Outcome := .next (changeReg (resBit 7#3) .c s)

/-- `RES 7,D`, 0xCBBA (R342). -/
def execRes7D (s : State) : Outcome := .next (changeReg (resBit 7#3) .d s)

/-- `RES 7,E`, 0xCBBB (R342). -/
def execRes7E (s : State) : Outcome := .next (changeReg (resBit 7#3) .e s)

/-- `RES 7,H`, 0xCBBC (R342). -/
def execRes7H (s : State) : Outcome := .next (changeReg (resBit 7#3) .h s)

/-- `RES 7,L`, 0xCBBD (R342). -/
def execRes7L (s : State) : Outcome := .next (changeReg (resBit 7#3) .l s)

/-- `RES 7,(HL)`, 0xCBBE (R343). -/
def execRes7AtHl (s : State) : Outcome := .next (modifyHl (resBit 7#3) 2 16 s)

/-- `RES 7,A`, 0xCBBF (R342). -/
def execRes7A (s : State) : Outcome := .next (changeReg (resBit 7#3) .a s)

/-- `SET 0,B`, 0xCBC0 (R344). -/
def execSet0B (s : State) : Outcome := .next (changeReg (setBit 0#3) .b s)

/-- `SET 0,C`, 0xCBC1 (R344). -/
def execSet0C (s : State) : Outcome := .next (changeReg (setBit 0#3) .c s)

/-- `SET 0,D`, 0xCBC2 (R344). -/
def execSet0D (s : State) : Outcome := .next (changeReg (setBit 0#3) .d s)

/-- `SET 0,E`, 0xCBC3 (R344). -/
def execSet0E (s : State) : Outcome := .next (changeReg (setBit 0#3) .e s)

/-- `SET 0,H`, 0xCBC4 (R344). -/
def execSet0H (s : State) : Outcome := .next (changeReg (setBit 0#3) .h s)

/-- `SET 0,L`, 0xCBC5 (R344). -/
def execSet0L (s : State) : Outcome := .next (changeReg (setBit 0#3) .l s)

/-- `SET 0,(HL)`, 0xCBC6 (R345). -/
def execSet0AtHl (s : State) : Outcome := .next (modifyHl (setBit 0#3) 2 16 s)

/-- `SET 0,A`, 0xCBC7 (R344). -/
def execSet0A (s : State) : Outcome := .next (changeReg (setBit 0#3) .a s)

/-- `SET 1,B`, 0xCBC8 (R344). -/
def execSet1B (s : State) : Outcome := .next (changeReg (setBit 1#3) .b s)

/-- `SET 1,C`, 0xCBC9 (R344). -/
def execSet1C (s : State) : Outcome := .next (changeReg (setBit 1#3) .c s)

/-- `SET 1,D`, 0xCBCA (R344). -/
def execSet1D (s : State) : Outcome := .next (changeReg (setBit 1#3) .d s)

/-- `SET 1,E`, 0xCBCB (R344). -/
def execSet1E (s : State) : Outcome := .next (changeReg (setBit 1#3) .e s)

/-- `SET 1,H`, 0xCBCC (R344). -/
def execSet1H (s : State) : Outcome := .next (changeReg (setBit 1#3) .h s)

/-- `SET 1,L`, 0xCBCD (R344). -/
def execSet1L (s : State) : Outcome := .next (changeReg (setBit 1#3) .l s)

/-- `SET 1,(HL)`, 0xCBCE (R345). -/
def execSet1AtHl (s : State) : Outcome := .next (modifyHl (setBit 1#3) 2 16 s)

/-- `SET 1,A`, 0xCBCF (R344). -/
def execSet1A (s : State) : Outcome := .next (changeReg (setBit 1#3) .a s)

/-- `SET 2,B`, 0xCBD0 (R344). -/
def execSet2B (s : State) : Outcome := .next (changeReg (setBit 2#3) .b s)

/-- `SET 2,C`, 0xCBD1 (R344). -/
def execSet2C (s : State) : Outcome := .next (changeReg (setBit 2#3) .c s)

/-- `SET 2,D`, 0xCBD2 (R344). -/
def execSet2D (s : State) : Outcome := .next (changeReg (setBit 2#3) .d s)

/-- `SET 2,E`, 0xCBD3 (R344). -/
def execSet2E (s : State) : Outcome := .next (changeReg (setBit 2#3) .e s)

/-- `SET 2,H`, 0xCBD4 (R344). -/
def execSet2H (s : State) : Outcome := .next (changeReg (setBit 2#3) .h s)

/-- `SET 2,L`, 0xCBD5 (R344). -/
def execSet2L (s : State) : Outcome := .next (changeReg (setBit 2#3) .l s)

/-- `SET 2,(HL)`, 0xCBD6 (R345). -/
def execSet2AtHl (s : State) : Outcome := .next (modifyHl (setBit 2#3) 2 16 s)

/-- `SET 2,A`, 0xCBD7 (R344). -/
def execSet2A (s : State) : Outcome := .next (changeReg (setBit 2#3) .a s)

/-- `SET 3,B`, 0xCBD8 (R344). -/
def execSet3B (s : State) : Outcome := .next (changeReg (setBit 3#3) .b s)

/-- `SET 3,C`, 0xCBD9 (R344). -/
def execSet3C (s : State) : Outcome := .next (changeReg (setBit 3#3) .c s)

/-- `SET 3,D`, 0xCBDA (R344). -/
def execSet3D (s : State) : Outcome := .next (changeReg (setBit 3#3) .d s)

/-- `SET 3,E`, 0xCBDB (R344). -/
def execSet3E (s : State) : Outcome := .next (changeReg (setBit 3#3) .e s)

/-- `SET 3,H`, 0xCBDC (R344). -/
def execSet3H (s : State) : Outcome := .next (changeReg (setBit 3#3) .h s)

/-- `SET 3,L`, 0xCBDD (R344). -/
def execSet3L (s : State) : Outcome := .next (changeReg (setBit 3#3) .l s)

/-- `SET 3,(HL)`, 0xCBDE (R345). -/
def execSet3AtHl (s : State) : Outcome := .next (modifyHl (setBit 3#3) 2 16 s)

/-- `SET 3,A`, 0xCBDF (R344). -/
def execSet3A (s : State) : Outcome := .next (changeReg (setBit 3#3) .a s)

/-- `SET 4,B`, 0xCBE0 (R344). -/
def execSet4B (s : State) : Outcome := .next (changeReg (setBit 4#3) .b s)

/-- `SET 4,C`, 0xCBE1 (R344). -/
def execSet4C (s : State) : Outcome := .next (changeReg (setBit 4#3) .c s)

/-- `SET 4,D`, 0xCBE2 (R344). -/
def execSet4D (s : State) : Outcome := .next (changeReg (setBit 4#3) .d s)

/-- `SET 4,E`, 0xCBE3 (R344). -/
def execSet4E (s : State) : Outcome := .next (changeReg (setBit 4#3) .e s)

/-- `SET 4,H`, 0xCBE4 (R344). -/
def execSet4H (s : State) : Outcome := .next (changeReg (setBit 4#3) .h s)

/-- `SET 4,L`, 0xCBE5 (R344). -/
def execSet4L (s : State) : Outcome := .next (changeReg (setBit 4#3) .l s)

/-- `SET 4,(HL)`, 0xCBE6 (R345). -/
def execSet4AtHl (s : State) : Outcome := .next (modifyHl (setBit 4#3) 2 16 s)

/-- `SET 4,A`, 0xCBE7 (R344). -/
def execSet4A (s : State) : Outcome := .next (changeReg (setBit 4#3) .a s)

/-- `SET 5,B`, 0xCBE8 (R344). -/
def execSet5B (s : State) : Outcome := .next (changeReg (setBit 5#3) .b s)

/-- `SET 5,C`, 0xCBE9 (R344). -/
def execSet5C (s : State) : Outcome := .next (changeReg (setBit 5#3) .c s)

/-- `SET 5,D`, 0xCBEA (R344). -/
def execSet5D (s : State) : Outcome := .next (changeReg (setBit 5#3) .d s)

/-- `SET 5,E`, 0xCBEB (R344). -/
def execSet5E (s : State) : Outcome := .next (changeReg (setBit 5#3) .e s)

/-- `SET 5,H`, 0xCBEC (R344). -/
def execSet5H (s : State) : Outcome := .next (changeReg (setBit 5#3) .h s)

/-- `SET 5,L`, 0xCBED (R344). -/
def execSet5L (s : State) : Outcome := .next (changeReg (setBit 5#3) .l s)

/-- `SET 5,(HL)`, 0xCBEE (R345). -/
def execSet5AtHl (s : State) : Outcome := .next (modifyHl (setBit 5#3) 2 16 s)

/-- `SET 5,A`, 0xCBEF (R344). -/
def execSet5A (s : State) : Outcome := .next (changeReg (setBit 5#3) .a s)

/-- `SET 6,B`, 0xCBF0 (R344). -/
def execSet6B (s : State) : Outcome := .next (changeReg (setBit 6#3) .b s)

/-- `SET 6,C`, 0xCBF1 (R344). -/
def execSet6C (s : State) : Outcome := .next (changeReg (setBit 6#3) .c s)

/-- `SET 6,D`, 0xCBF2 (R344). -/
def execSet6D (s : State) : Outcome := .next (changeReg (setBit 6#3) .d s)

/-- `SET 6,E`, 0xCBF3 (R344). -/
def execSet6E (s : State) : Outcome := .next (changeReg (setBit 6#3) .e s)

/-- `SET 6,H`, 0xCBF4 (R344). -/
def execSet6H (s : State) : Outcome := .next (changeReg (setBit 6#3) .h s)

/-- `SET 6,L`, 0xCBF5 (R344). -/
def execSet6L (s : State) : Outcome := .next (changeReg (setBit 6#3) .l s)

/-- `SET 6,(HL)`, 0xCBF6 (R345). -/
def execSet6AtHl (s : State) : Outcome := .next (modifyHl (setBit 6#3) 2 16 s)

/-- `SET 6,A`, 0xCBF7 (R344). -/
def execSet6A (s : State) : Outcome := .next (changeReg (setBit 6#3) .a s)

/-- `SET 7,B`, 0xCBF8 (R344). -/
def execSet7B (s : State) : Outcome := .next (changeReg (setBit 7#3) .b s)

/-- `SET 7,C`, 0xCBF9 (R344). -/
def execSet7C (s : State) : Outcome := .next (changeReg (setBit 7#3) .c s)

/-- `SET 7,D`, 0xCBFA (R344). -/
def execSet7D (s : State) : Outcome := .next (changeReg (setBit 7#3) .d s)

/-- `SET 7,E`, 0xCBFB (R344). -/
def execSet7E (s : State) : Outcome := .next (changeReg (setBit 7#3) .e s)

/-- `SET 7,H`, 0xCBFC (R344). -/
def execSet7H (s : State) : Outcome := .next (changeReg (setBit 7#3) .h s)

/-- `SET 7,L`, 0xCBFD (R344). -/
def execSet7L (s : State) : Outcome := .next (changeReg (setBit 7#3) .l s)

/-- `SET 7,(HL)`, 0xCBFE (R345). -/
def execSet7AtHl (s : State) : Outcome := .next (modifyHl (setBit 7#3) 2 16 s)

/-- `SET 7,A`, 0xCBFF (R344). -/
def execSet7A (s : State) : Outcome := .next (changeReg (setBit 7#3) .a s)

end Sys2Proof.Machine
end

