-- ==== Sys2Proof/Machine/Control.lean ====
section
/-! DEFINITION. Jumps, calls, returns and restarts (46_control.md R350 to R362). -/
namespace Sys2Proof.Machine

/-- The target of a relative jump: `next + sext_16(b1)` (30_encoding.md R134). -/
def State.relative (s : State) (e : Byte) : Word := s.nextPc 2 + sext16 e

/-- `JP cc,a16` (R352). -/
def jpCond (cc : Cond) (v : Word) (s : State) : State := if s.regs.f.holds cc then s.jump v 16 else s.finish 3 12

/-- `JR cc,e8` (R355). -/
def jrCond (cc : Cond) (e : Byte) (s : State) : State :=
  if s.regs.f.holds cc then s.jump (s.relative e) 12 else s.finish 2 8

/-- `Push16(next); PC <- v`: CALL (R356) and RST (R362). -/
def callTo (v : Word) (len n : Nat) (s : State) : State := (s.push16 (s.nextPc len)).jump v n

/-- `CALL cc,a16` (R357). -/
def callCond (cc : Cond) (v : Word) (s : State) : State := if s.regs.f.holds cc then callTo v 3 24 s else s.finish 3 12

/-- `PC <- Pop16()`: RET (R358). -/
def returnTo (n : Nat) (s : State) : State := s.afterPop.jump s.popValue n

/-- `RET cc` (R359). -/
def retCond (cc : Cond) (s : State) : State := if s.regs.f.holds cc then returnTo 20 s else s.finish 1 8

/-- `JR e8`, 0x18 (R354). -/
def execJrE8 (n : Byte) (s : State) : Outcome := .next (s.jump (s.relative n) 12)

/-- `JR NZ,e8`, 0x20 (R355). -/
def execJrNzE8 (n : Byte) (s : State) : Outcome := .next (jrCond .nz n s)

/-- `JR Z,e8`, 0x28 (R355). -/
def execJrZE8 (n : Byte) (s : State) : Outcome := .next (jrCond .z n s)

/-- `JR NC,e8`, 0x30 (R355). -/
def execJrNcE8 (n : Byte) (s : State) : Outcome := .next (jrCond .nc n s)

/-- `JR C,e8`, 0x38 (R355). -/
def execJrCE8 (n : Byte) (s : State) : Outcome := .next (jrCond .c n s)

/-- `RET NZ`, 0xC0 (R359). -/
def execRetNz (s : State) : Outcome := .next (retCond .nz s)

/-- `JP NZ,a16`, 0xC2 (R352). -/
def execJpNzA16 (n : Word) (s : State) : Outcome := .next (jpCond .nz n s)

/-- `JP a16`, 0xC3 (R351). -/
def execJpA16 (n : Word) (s : State) : Outcome := .next (s.jump n 16)

/-- `CALL NZ,a16`, 0xC4 (R357). -/
def execCallNzA16 (n : Word) (s : State) : Outcome := .next (callCond .nz n s)

/-- `RST 00H`, 0xC7 (R362). -/
def execRst00 (s : State) : Outcome := .next (callTo 0x0000#16 1 16 s)

/-- `RET Z`, 0xC8 (R359). -/
def execRetZ (s : State) : Outcome := .next (retCond .z s)

/-- `RET`, 0xC9 (R358). -/
def execRet (s : State) : Outcome := .next (returnTo 16 s)

/-- `JP Z,a16`, 0xCA (R352). -/
def execJpZA16 (n : Word) (s : State) : Outcome := .next (jpCond .z n s)

/-- `CALL Z,a16`, 0xCC (R357). -/
def execCallZA16 (n : Word) (s : State) : Outcome := .next (callCond .z n s)

/-- `CALL a16`, 0xCD (R356). -/
def execCallA16 (n : Word) (s : State) : Outcome := .next (callTo n 3 24 s)

/-- `RST 08H`, 0xCF (R362). -/
def execRst08 (s : State) : Outcome := .next (callTo 0x0008#16 1 16 s)

/-- `RET NC`, 0xD0 (R359). -/
def execRetNc (s : State) : Outcome := .next (retCond .nc s)

/-- `JP NC,a16`, 0xD2 (R352). -/
def execJpNcA16 (n : Word) (s : State) : Outcome := .next (jpCond .nc n s)

/-- `CALL NC,a16`, 0xD4 (R357). -/
def execCallNcA16 (n : Word) (s : State) : Outcome := .next (callCond .nc n s)

/-- `RST 10H`, 0xD7 (R362). -/
def execRst10 (s : State) : Outcome := .next (callTo 0x0010#16 1 16 s)

/-- `RET C`, 0xD8 (R359). -/
def execRetC (s : State) : Outcome := .next (retCond .c s)

/-- `RETI`, 0xD9 (R361). -/
def execReti (s : State) : Outcome := .next (s.returnFromInterrupt)

/-- `JP C,a16`, 0xDA (R352). -/
def execJpCA16 (n : Word) (s : State) : Outcome := .next (jpCond .c n s)

/-- `CALL C,a16`, 0xDC (R357). -/
def execCallCA16 (n : Word) (s : State) : Outcome := .next (callCond .c n s)

/-- `RST 18H`, 0xDF (R362). -/
def execRst18 (s : State) : Outcome := .next (callTo 0x0018#16 1 16 s)

/-- `RST 20H`, 0xE7 (R362). -/
def execRst20 (s : State) : Outcome := .next (callTo 0x0020#16 1 16 s)

/-- `JP HL`, 0xE9 (R353). -/
def execJpHl (s : State) : Outcome := .next (s.jump s.hl 4)

/-- `RST 28H`, 0xEF (R362). -/
def execRst28 (s : State) : Outcome := .next (callTo 0x0028#16 1 16 s)

/-- `RST 30H`, 0xF7 (R362). -/
def execRst30 (s : State) : Outcome := .next (callTo 0x0030#16 1 16 s)

/-- `RST 38H`, 0xFF (R362). -/
def execRst38 (s : State) : Outcome := .next (callTo 0x0038#16 1 16 s)

end Sys2Proof.Machine
end

