-- ==== Sys2Proof/Machine/CpuControl.lean ====
section
/-! DEFINITION. Processor control and the illegal opcodes (47_cpu_control.md R370 to R377). -/
namespace Sys2Proof.Machine

/-- `HALT` (R372): it halts only where no enabled source is flagged. -/
def halt (s : State) : State :=
  (if s.enabledRequests = 0#5 then { s with ctl := { s.ctl with halted := true } } else s).finish 1 4

/-- `DI` (R374). -/
def disableInterrupts (s : State) : State := State.finish { s with ctl := { s.ctl with ime := false, imeDelay := 0 } } 1 4

/-- `EI` (R375): at once with `EI_DELAY = 0`; else it starts the delay, unless IME is set or the delay is running. -/
def enableInterrupts (s : State) : State :=
  State.finish
    (match s.params.eiDelay with
     | .zero => { s with ctl := { s.ctl with ime := true } }
     | .one  =>
       if !s.ctl.ime && decide (s.ctl.imeDelay = 0) then { s with ctl := { s.ctl with imeDelay := 2 } } else s)
    1 4

/-- `NOP`, 0x00 (R370). -/
def execNop (s : State) : Outcome := .next (s.finish 1 4)

/-- `STOP`, 0x10 (R371). -/
def execStop (s : State) : Outcome := .next (s.raiseFatal 0x0010#16)

/-- `HALT`, 0x76 (R372). -/
def execHalt (s : State) : Outcome := .next (halt s)

/-- `DI`, 0xF3 (R374). -/
def execDi (s : State) : Outcome := .next (disableInterrupts s)

/-- `EI`, 0xFB (R375). -/
def execEi (s : State) : Outcome := .next (enableInterrupts s)

/-- `illegal`, 0xD3 (R377). -/
def execIllegalD3 (s : State) : Outcome := .next (s.raiseFatal 0x00D3#16)

/-- `illegal`, 0xDB (R377). -/
def execIllegalDB (s : State) : Outcome := .next (s.raiseFatal 0x00DB#16)

/-- `illegal`, 0xDD (R377). -/
def execIllegalDD (s : State) : Outcome := .next (s.raiseFatal 0x00DD#16)

/-- `illegal`, 0xE3 (R377). -/
def execIllegalE3 (s : State) : Outcome := .next (s.raiseFatal 0x00E3#16)

/-- `illegal`, 0xE4 (R377). -/
def execIllegalE4 (s : State) : Outcome := .next (s.raiseFatal 0x00E4#16)

/-- `illegal`, 0xEB (R377). -/
def execIllegalEB (s : State) : Outcome := .next (s.raiseFatal 0x00EB#16)

/-- `illegal`, 0xEC (R377). -/
def execIllegalEC (s : State) : Outcome := .next (s.raiseFatal 0x00EC#16)

/-- `illegal`, 0xED (R377). -/
def execIllegalED (s : State) : Outcome := .next (s.raiseFatal 0x00ED#16)

/-- `illegal`, 0xF4 (R377). -/
def execIllegalF4 (s : State) : Outcome := .next (s.raiseFatal 0x00F4#16)

/-- `illegal`, 0xFC (R377). -/
def execIllegalFC (s : State) : Outcome := .next (s.raiseFatal 0x00FC#16)

/-- `illegal`, 0xFD (R377). -/
def execIllegalFD (s : State) : Outcome := .next (s.raiseFatal 0x00FD#16)

end Sys2Proof.Machine
end

