-- ==== Sys2Proof/Machine/Load16.lean ====
section
/-! DEFINITION. 16-bit loads, PUSH and POP (41_load16.md R230 to R237). -/
namespace Sys2Proof.Machine

/-- `LD rr,d16` (R230). -/
def ldPair (p : Pair) (v : Word) (s : State) : State := (s.mapRegs fun g => g.setPair p v).finish 3 12

/-- `LD (a16),SP` (R231): the low byte first, at the lower address. -/
def storeSp (a : Word) (s : State) : State :=
  ((s.writeByte a (lo s.regs.sp)).writeByte (a + 1#16) (hi s.regs.sp)).finish 3 20

/-- `LD SP,HL` (R232). -/
def ldSpHl (s : State) : State := (s.setSp s.hl).finish 1 8

/-- `LD HL,SP+e8` (R233). -/
def ldHlSp (u : Byte) (s : State) : State :=
  let r := addSigned s.regs.sp u
  (s.mapRegs fun g => { g.setPair .hl r.1 with f := r.2 }).finish 2 12

/-- `PUSH rr` (R234, R235). -/
def push (p : StackPair) (s : State) : State := (s.push16 (s.regs.getStackPair p)).finish 1 16

/-- `POP rr` (R236, R237). -/
def pop (p : StackPair) (s : State) : State := (s.afterPop.mapRegs fun g => g.setStackPair p s.popValue).finish 1 12

/-- `LD BC,d16`, 0x01 (R230). -/
def execLdBcD16 (n : Word) (s : State) : Outcome := .next (ldPair .bc n s)

/-- `LD (a16),SP`, 0x08 (R231). -/
def execLdAtA16Sp (n : Word) (s : State) : Outcome := .next (storeSp n s)

/-- `LD DE,d16`, 0x11 (R230). -/
def execLdDeD16 (n : Word) (s : State) : Outcome := .next (ldPair .de n s)

/-- `LD HL,d16`, 0x21 (R230). -/
def execLdHlD16 (n : Word) (s : State) : Outcome := .next (ldPair .hl n s)

/-- `LD SP,d16`, 0x31 (R230). -/
def execLdSpD16 (n : Word) (s : State) : Outcome := .next (ldPair .sp n s)

/-- `POP BC`, 0xC1 (R236). -/
def execPopBc (s : State) : Outcome := .next (pop .bc s)

/-- `PUSH BC`, 0xC5 (R234). -/
def execPushBc (s : State) : Outcome := .next (push .bc s)

/-- `POP DE`, 0xD1 (R236). -/
def execPopDe (s : State) : Outcome := .next (pop .de s)

/-- `PUSH DE`, 0xD5 (R234). -/
def execPushDe (s : State) : Outcome := .next (push .de s)

/-- `POP HL`, 0xE1 (R236). -/
def execPopHl (s : State) : Outcome := .next (pop .hl s)

/-- `PUSH HL`, 0xE5 (R234). -/
def execPushHl (s : State) : Outcome := .next (push .hl s)

/-- `POP AF`, 0xF1 (R237). -/
def execPopAf (s : State) : Outcome := .next (pop .af s)

/-- `PUSH AF`, 0xF5 (R235). -/
def execPushAf (s : State) : Outcome := .next (push .af s)

/-- `LD HL,SP+e8`, 0xF8 (R233). -/
def execLdHlSpE8 (n : Byte) (s : State) : Outcome := .next (ldHlSp n s)

/-- `LD SP,HL`, 0xF9 (R232). -/
def execLdSpHl (s : State) : Outcome := .next (ldSpHl s)

end Sys2Proof.Machine
end

