-- ==== Sys2Proof/Machine/Load8.lean ====
section
/-! DEFINITION. 8-bit loads (40_load8.md R200 to R218). No load writes a flag. -/
namespace Sys2Proof.Machine

/-- `LD r,r'` (R200). -/
def ldReg (dst r : Reg8) (s : State) : State := (s.mapRegs fun g => g.set8 dst (g.get8 r)).finish 1 4

/-- `LD r,(HL)` (R201): the address is HL before the write. -/
def ldFromHl (dst : Reg8) (s : State) : State :=
  ((s.afterRead s.hl).mapRegs fun g => g.set8 dst (s.readByte s.hl)).finish 1 8

/-- `LD (HL),r` (R202). -/
def ldToHl (r : Reg8) (s : State) : State := (s.writeByte s.hl (s.regs.get8 r)).finish 1 8

/-- `LD r,d8` (R203). -/
def ldImm (dst : Reg8) (n : Byte) (s : State) : State := (s.mapRegs fun g => g.set8 dst n).finish 2 8

/-- `LD (HL),d8` (R204). -/
def ldHlImm (n : Byte) (s : State) : State := (s.writeByte s.hl n).finish 2 12

/-- `A <- MemRead(a, 1)`: R205, R206, R213, R215, R217. -/
def loadA (a : Word) (len n : Nat) (s : State) : State :=
  ((s.afterRead a).mapRegs fun g => g.set8 .a (s.readByte a)).finish len n

/-- `MemWrite(a, 1, A)`: R207, R208, R214, R216, R218. -/
def storeA (a : Word) (len n : Nat) (s : State) : State := (s.writeByte a s.regs.a).finish len n

/-- `A <- MemRead(HL, 1); HL <- HL + d` (R209, R210). -/
def loadAStep (d : Word) (s : State) : State :=
  ((s.afterRead s.hl).mapRegs fun g => (g.set8 .a (s.readByte s.hl)).setPair .hl (g.hl + d)).finish 1 8

/-- `MemWrite(HL, 1, A); HL <- HL + d` (R211, R212). -/
def storeAStep (d : Word) (s : State) : State :=
  ((s.writeByte s.hl s.regs.a).mapRegs fun g => g.setPair .hl (g.hl + d)).finish 1 8

/-- `LD (BC),A`, 0x02 (R207). -/
def execLdAtBcA (s : State) : Outcome := .next (storeA (s.regs.getPair .bc) 1 8 s)

/-- `LD B,d8`, 0x06 (R203). -/
def execLdBD8 (n : Byte) (s : State) : Outcome := .next (ldImm .b n s)

/-- `LD A,(BC)`, 0x0A (R205). -/
def execLdAAtBc (s : State) : Outcome := .next (loadA (s.regs.getPair .bc) 1 8 s)

/-- `LD C,d8`, 0x0E (R203). -/
def execLdCD8 (n : Byte) (s : State) : Outcome := .next (ldImm .c n s)

/-- `LD (DE),A`, 0x12 (R208). -/
def execLdAtDeA (s : State) : Outcome := .next (storeA (s.regs.getPair .de) 1 8 s)

/-- `LD D,d8`, 0x16 (R203). -/
def execLdDD8 (n : Byte) (s : State) : Outcome := .next (ldImm .d n s)

/-- `LD A,(DE)`, 0x1A (R206). -/
def execLdAAtDe (s : State) : Outcome := .next (loadA (s.regs.getPair .de) 1 8 s)

/-- `LD E,d8`, 0x1E (R203). -/
def execLdED8 (n : Byte) (s : State) : Outcome := .next (ldImm .e n s)

/-- `LD (HL+),A`, 0x22 (R211). -/
def execLdAtHlIncA (s : State) : Outcome := .next (storeAStep 1#16 s)

/-- `LD H,d8`, 0x26 (R203). -/
def execLdHD8 (n : Byte) (s : State) : Outcome := .next (ldImm .h n s)

/-- `LD A,(HL+)`, 0x2A (R209). -/
def execLdAAtHlInc (s : State) : Outcome := .next (loadAStep 1#16 s)

/-- `LD L,d8`, 0x2E (R203). -/
def execLdLD8 (n : Byte) (s : State) : Outcome := .next (ldImm .l n s)

/-- `LD (HL-),A`, 0x32 (R212). -/
def execLdAtHlDecA (s : State) : Outcome := .next (storeAStep 0xFFFF#16 s)

/-- `LD (HL),d8`, 0x36 (R204). -/
def execLdAtHlD8 (n : Byte) (s : State) : Outcome := .next (ldHlImm n s)

/-- `LD A,(HL-)`, 0x3A (R210). -/
def execLdAAtHlDec (s : State) : Outcome := .next (loadAStep 0xFFFF#16 s)

/-- `LD A,d8`, 0x3E (R203). -/
def execLdAD8 (n : Byte) (s : State) : Outcome := .next (ldImm .a n s)

/-- `LD B,B`, 0x40 (R200). -/
def execLdBB (s : State) : Outcome := .next (ldReg .b .b s)

/-- `LD B,C`, 0x41 (R200). -/
def execLdBC (s : State) : Outcome := .next (ldReg .b .c s)

/-- `LD B,D`, 0x42 (R200). -/
def execLdBD (s : State) : Outcome := .next (ldReg .b .d s)

/-- `LD B,E`, 0x43 (R200). -/
def execLdBE (s : State) : Outcome := .next (ldReg .b .e s)

/-- `LD B,H`, 0x44 (R200). -/
def execLdBH (s : State) : Outcome := .next (ldReg .b .h s)

/-- `LD B,L`, 0x45 (R200). -/
def execLdBL (s : State) : Outcome := .next (ldReg .b .l s)

/-- `LD B,(HL)`, 0x46 (R201). -/
def execLdBAtHl (s : State) : Outcome := .next (ldFromHl .b s)

/-- `LD B,A`, 0x47 (R200). -/
def execLdBA (s : State) : Outcome := .next (ldReg .b .a s)

/-- `LD C,B`, 0x48 (R200). -/
def execLdCB (s : State) : Outcome := .next (ldReg .c .b s)

/-- `LD C,C`, 0x49 (R200). -/
def execLdCC (s : State) : Outcome := .next (ldReg .c .c s)

/-- `LD C,D`, 0x4A (R200). -/
def execLdCD (s : State) : Outcome := .next (ldReg .c .d s)

/-- `LD C,E`, 0x4B (R200). -/
def execLdCE (s : State) : Outcome := .next (ldReg .c .e s)

/-- `LD C,H`, 0x4C (R200). -/
def execLdCH (s : State) : Outcome := .next (ldReg .c .h s)

/-- `LD C,L`, 0x4D (R200). -/
def execLdCL (s : State) : Outcome := .next (ldReg .c .l s)

/-- `LD C,(HL)`, 0x4E (R201). -/
def execLdCAtHl (s : State) : Outcome := .next (ldFromHl .c s)

/-- `LD C,A`, 0x4F (R200). -/
def execLdCA (s : State) : Outcome := .next (ldReg .c .a s)

/-- `LD D,B`, 0x50 (R200). -/
def execLdDB (s : State) : Outcome := .next (ldReg .d .b s)

/-- `LD D,C`, 0x51 (R200). -/
def execLdDC (s : State) : Outcome := .next (ldReg .d .c s)

/-- `LD D,D`, 0x52 (R200). -/
def execLdDD (s : State) : Outcome := .next (ldReg .d .d s)

/-- `LD D,E`, 0x53 (R200). -/
def execLdDE (s : State) : Outcome := .next (ldReg .d .e s)

/-- `LD D,H`, 0x54 (R200). -/
def execLdDH (s : State) : Outcome := .next (ldReg .d .h s)

/-- `LD D,L`, 0x55 (R200). -/
def execLdDL (s : State) : Outcome := .next (ldReg .d .l s)

/-- `LD D,(HL)`, 0x56 (R201). -/
def execLdDAtHl (s : State) : Outcome := .next (ldFromHl .d s)

/-- `LD D,A`, 0x57 (R200). -/
def execLdDA (s : State) : Outcome := .next (ldReg .d .a s)

/-- `LD E,B`, 0x58 (R200). -/
def execLdEB (s : State) : Outcome := .next (ldReg .e .b s)

/-- `LD E,C`, 0x59 (R200). -/
def execLdEC (s : State) : Outcome := .next (ldReg .e .c s)

/-- `LD E,D`, 0x5A (R200). -/
def execLdED (s : State) : Outcome := .next (ldReg .e .d s)

/-- `LD E,E`, 0x5B (R200). -/
def execLdEE (s : State) : Outcome := .next (ldReg .e .e s)

/-- `LD E,H`, 0x5C (R200). -/
def execLdEH (s : State) : Outcome := .next (ldReg .e .h s)

/-- `LD E,L`, 0x5D (R200). -/
def execLdEL (s : State) : Outcome := .next (ldReg .e .l s)

/-- `LD E,(HL)`, 0x5E (R201). -/
def execLdEAtHl (s : State) : Outcome := .next (ldFromHl .e s)

/-- `LD E,A`, 0x5F (R200). -/
def execLdEA (s : State) : Outcome := .next (ldReg .e .a s)

/-- `LD H,B`, 0x60 (R200). -/
def execLdHB (s : State) : Outcome := .next (ldReg .h .b s)

/-- `LD H,C`, 0x61 (R200). -/
def execLdHC (s : State) : Outcome := .next (ldReg .h .c s)

/-- `LD H,D`, 0x62 (R200). -/
def execLdHD (s : State) : Outcome := .next (ldReg .h .d s)

/-- `LD H,E`, 0x63 (R200). -/
def execLdHE (s : State) : Outcome := .next (ldReg .h .e s)

/-- `LD H,H`, 0x64 (R200). -/
def execLdHH (s : State) : Outcome := .next (ldReg .h .h s)

/-- `LD H,L`, 0x65 (R200). -/
def execLdHL (s : State) : Outcome := .next (ldReg .h .l s)

/-- `LD H,(HL)`, 0x66 (R201). -/
def execLdHAtHl (s : State) : Outcome := .next (ldFromHl .h s)

/-- `LD H,A`, 0x67 (R200). -/
def execLdHA (s : State) : Outcome := .next (ldReg .h .a s)

/-- `LD L,B`, 0x68 (R200). -/
def execLdLB (s : State) : Outcome := .next (ldReg .l .b s)

/-- `LD L,C`, 0x69 (R200). -/
def execLdLC (s : State) : Outcome := .next (ldReg .l .c s)

/-- `LD L,D`, 0x6A (R200). -/
def execLdLD (s : State) : Outcome := .next (ldReg .l .d s)

/-- `LD L,E`, 0x6B (R200). -/
def execLdLE (s : State) : Outcome := .next (ldReg .l .e s)

/-- `LD L,H`, 0x6C (R200). -/
def execLdLH (s : State) : Outcome := .next (ldReg .l .h s)

/-- `LD L,L`, 0x6D (R200). -/
def execLdLL (s : State) : Outcome := .next (ldReg .l .l s)

/-- `LD L,(HL)`, 0x6E (R201). -/
def execLdLAtHl (s : State) : Outcome := .next (ldFromHl .l s)

/-- `LD L,A`, 0x6F (R200). -/
def execLdLA (s : State) : Outcome := .next (ldReg .l .a s)

/-- `LD (HL),B`, 0x70 (R202). -/
def execLdAtHlB (s : State) : Outcome := .next (ldToHl .b s)

/-- `LD (HL),C`, 0x71 (R202). -/
def execLdAtHlC (s : State) : Outcome := .next (ldToHl .c s)

/-- `LD (HL),D`, 0x72 (R202). -/
def execLdAtHlD (s : State) : Outcome := .next (ldToHl .d s)

/-- `LD (HL),E`, 0x73 (R202). -/
def execLdAtHlE (s : State) : Outcome := .next (ldToHl .e s)

/-- `LD (HL),H`, 0x74 (R202). -/
def execLdAtHlH (s : State) : Outcome := .next (ldToHl .h s)

/-- `LD (HL),L`, 0x75 (R202). -/
def execLdAtHlL (s : State) : Outcome := .next (ldToHl .l s)

/-- `LD (HL),A`, 0x77 (R202). -/
def execLdAtHlA (s : State) : Outcome := .next (ldToHl .a s)

/-- `LD A,B`, 0x78 (R200). -/
def execLdAB (s : State) : Outcome := .next (ldReg .a .b s)

/-- `LD A,C`, 0x79 (R200). -/
def execLdAC (s : State) : Outcome := .next (ldReg .a .c s)

/-- `LD A,D`, 0x7A (R200). -/
def execLdAD (s : State) : Outcome := .next (ldReg .a .d s)

/-- `LD A,E`, 0x7B (R200). -/
def execLdAE (s : State) : Outcome := .next (ldReg .a .e s)

/-- `LD A,H`, 0x7C (R200). -/
def execLdAH (s : State) : Outcome := .next (ldReg .a .h s)

/-- `LD A,L`, 0x7D (R200). -/
def execLdAL (s : State) : Outcome := .next (ldReg .a .l s)

/-- `LD A,(HL)`, 0x7E (R201). -/
def execLdAAtHl (s : State) : Outcome := .next (ldFromHl .a s)

/-- `LD A,A`, 0x7F (R200). -/
def execLdAA (s : State) : Outcome := .next (ldReg .a .a s)

/-- `LDH (a8),A`, 0xE0 (R216). -/
def execLdhAtA8A (n : Byte) (s : State) : Outcome := .next (storeA (page0xFF n) 2 12 s)

/-- `LD (C),A`, 0xE2 (R218). -/
def execLdAtCA (s : State) : Outcome := .next (storeA (page0xFF s.regs.c) 1 8 s)

/-- `LD (a16),A`, 0xEA (R214). -/
def execLdAtA16A (n : Word) (s : State) : Outcome := .next (storeA n 3 16 s)

/-- `LDH A,(a8)`, 0xF0 (R215). -/
def execLdhAAtA8 (n : Byte) (s : State) : Outcome := .next (loadA (page0xFF n) 2 12 s)

/-- `LD A,(C)`, 0xF2 (R217). -/
def execLdAAtC (s : State) : Outcome := .next (loadA (page0xFF s.regs.c) 1 8 s)

/-- `LD A,(a16)`, 0xFA (R213). -/
def execLdAAtA16 (n : Word) (s : State) : Outcome := .next (loadA n 3 16 s)

end Sys2Proof.Machine
end

