-- ==== Sys2Proof/Machine/Rotate.lean ====
section
/-! DEFINITION. Rotates and shifts (44_rotate_shift.md R310 to R330), over `rotate8` of Machine/Flags.lean. -/
namespace Sys2Proof.Machine

/-- The accumulator rotates RLCA, RRCA, RLA, RRA (R310 to R313). -/
def rotateA (op : RotOp) (s : State) : State :=
  let u := shiftA op s.regs.a s.regs.f
  (s.mapRegs fun g => { g with a := u.value, f := u.flags }).finish 1 4

/-- `RLCA`, 0x07 (R310). -/
def execRlca (s : State) : Outcome := .next (rotateA .rlc s)

/-- `RRCA`, 0x0F (R311). -/
def execRrca (s : State) : Outcome := .next (rotateA .rrc s)

/-- `RLA`, 0x17 (R312). -/
def execRla (s : State) : Outcome := .next (rotateA .rl s)

/-- `RRA`, 0x1F (R313). -/
def execRra (s : State) : Outcome := .next (rotateA .rr s)

/-- `RLC B`, 0xCB00 (R315). -/
def execRlcB (s : State) : Outcome := .next (changeReg (shift8 .rlc) .b s)

/-- `RLC C`, 0xCB01 (R315). -/
def execRlcC (s : State) : Outcome := .next (changeReg (shift8 .rlc) .c s)

/-- `RLC D`, 0xCB02 (R315). -/
def execRlcD (s : State) : Outcome := .next (changeReg (shift8 .rlc) .d s)

/-- `RLC E`, 0xCB03 (R315). -/
def execRlcE (s : State) : Outcome := .next (changeReg (shift8 .rlc) .e s)

/-- `RLC H`, 0xCB04 (R315). -/
def execRlcH (s : State) : Outcome := .next (changeReg (shift8 .rlc) .h s)

/-- `RLC L`, 0xCB05 (R315). -/
def execRlcL (s : State) : Outcome := .next (changeReg (shift8 .rlc) .l s)

/-- `RLC (HL)`, 0xCB06 (R316). -/
def execRlcAtHl (s : State) : Outcome := .next (modifyHl (shift8 .rlc) 2 16 s)

/-- `RLC A`, 0xCB07 (R315). -/
def execRlcA (s : State) : Outcome := .next (changeReg (shift8 .rlc) .a s)

/-- `RRC B`, 0xCB08 (R317). -/
def execRrcB (s : State) : Outcome := .next (changeReg (shift8 .rrc) .b s)

/-- `RRC C`, 0xCB09 (R317). -/
def execRrcC (s : State) : Outcome := .next (changeReg (shift8 .rrc) .c s)

/-- `RRC D`, 0xCB0A (R317). -/
def execRrcD (s : State) : Outcome := .next (changeReg (shift8 .rrc) .d s)

/-- `RRC E`, 0xCB0B (R317). -/
def execRrcE (s : State) : Outcome := .next (changeReg (shift8 .rrc) .e s)

/-- `RRC H`, 0xCB0C (R317). -/
def execRrcH (s : State) : Outcome := .next (changeReg (shift8 .rrc) .h s)

/-- `RRC L`, 0xCB0D (R317). -/
def execRrcL (s : State) : Outcome := .next (changeReg (shift8 .rrc) .l s)

/-- `RRC (HL)`, 0xCB0E (R318). -/
def execRrcAtHl (s : State) : Outcome := .next (modifyHl (shift8 .rrc) 2 16 s)

/-- `RRC A`, 0xCB0F (R317). -/
def execRrcA (s : State) : Outcome := .next (changeReg (shift8 .rrc) .a s)

/-- `RL B`, 0xCB10 (R319). -/
def execRlB (s : State) : Outcome := .next (changeReg (shift8 .rl) .b s)

/-- `RL C`, 0xCB11 (R319). -/
def execRlC (s : State) : Outcome := .next (changeReg (shift8 .rl) .c s)

/-- `RL D`, 0xCB12 (R319). -/
def execRlD (s : State) : Outcome := .next (changeReg (shift8 .rl) .d s)

/-- `RL E`, 0xCB13 (R319). -/
def execRlE (s : State) : Outcome := .next (changeReg (shift8 .rl) .e s)

/-- `RL H`, 0xCB14 (R319). -/
def execRlH (s : State) : Outcome := .next (changeReg (shift8 .rl) .h s)

/-- `RL L`, 0xCB15 (R319). -/
def execRlL (s : State) : Outcome := .next (changeReg (shift8 .rl) .l s)

/-- `RL (HL)`, 0xCB16 (R320). -/
def execRlAtHl (s : State) : Outcome := .next (modifyHl (shift8 .rl) 2 16 s)

/-- `RL A`, 0xCB17 (R319). -/
def execRlA (s : State) : Outcome := .next (changeReg (shift8 .rl) .a s)

/-- `RR B`, 0xCB18 (R321). -/
def execRrB (s : State) : Outcome := .next (changeReg (shift8 .rr) .b s)

/-- `RR C`, 0xCB19 (R321). -/
def execRrC (s : State) : Outcome := .next (changeReg (shift8 .rr) .c s)

/-- `RR D`, 0xCB1A (R321). -/
def execRrD (s : State) : Outcome := .next (changeReg (shift8 .rr) .d s)

/-- `RR E`, 0xCB1B (R321). -/
def execRrE (s : State) : Outcome := .next (changeReg (shift8 .rr) .e s)

/-- `RR H`, 0xCB1C (R321). -/
def execRrH (s : State) : Outcome := .next (changeReg (shift8 .rr) .h s)

/-- `RR L`, 0xCB1D (R321). -/
def execRrL (s : State) : Outcome := .next (changeReg (shift8 .rr) .l s)

/-- `RR (HL)`, 0xCB1E (R322). -/
def execRrAtHl (s : State) : Outcome := .next (modifyHl (shift8 .rr) 2 16 s)

/-- `RR A`, 0xCB1F (R321). -/
def execRrA (s : State) : Outcome := .next (changeReg (shift8 .rr) .a s)

/-- `SLA B`, 0xCB20 (R323). -/
def execSlaB (s : State) : Outcome := .next (changeReg (shift8 .sla) .b s)

/-- `SLA C`, 0xCB21 (R323). -/
def execSlaC (s : State) : Outcome := .next (changeReg (shift8 .sla) .c s)

/-- `SLA D`, 0xCB22 (R323). -/
def execSlaD (s : State) : Outcome := .next (changeReg (shift8 .sla) .d s)

/-- `SLA E`, 0xCB23 (R323). -/
def execSlaE (s : State) : Outcome := .next (changeReg (shift8 .sla) .e s)

/-- `SLA H`, 0xCB24 (R323). -/
def execSlaH (s : State) : Outcome := .next (changeReg (shift8 .sla) .h s)

/-- `SLA L`, 0xCB25 (R323). -/
def execSlaL (s : State) : Outcome := .next (changeReg (shift8 .sla) .l s)

/-- `SLA (HL)`, 0xCB26 (R324). -/
def execSlaAtHl (s : State) : Outcome := .next (modifyHl (shift8 .sla) 2 16 s)

/-- `SLA A`, 0xCB27 (R323). -/
def execSlaA (s : State) : Outcome := .next (changeReg (shift8 .sla) .a s)

/-- `SRA B`, 0xCB28 (R325). -/
def execSraB (s : State) : Outcome := .next (changeReg (shift8 .sra) .b s)

/-- `SRA C`, 0xCB29 (R325). -/
def execSraC (s : State) : Outcome := .next (changeReg (shift8 .sra) .c s)

/-- `SRA D`, 0xCB2A (R325). -/
def execSraD (s : State) : Outcome := .next (changeReg (shift8 .sra) .d s)

/-- `SRA E`, 0xCB2B (R325). -/
def execSraE (s : State) : Outcome := .next (changeReg (shift8 .sra) .e s)

/-- `SRA H`, 0xCB2C (R325). -/
def execSraH (s : State) : Outcome := .next (changeReg (shift8 .sra) .h s)

/-- `SRA L`, 0xCB2D (R325). -/
def execSraL (s : State) : Outcome := .next (changeReg (shift8 .sra) .l s)

/-- `SRA (HL)`, 0xCB2E (R326). -/
def execSraAtHl (s : State) : Outcome := .next (modifyHl (shift8 .sra) 2 16 s)

/-- `SRA A`, 0xCB2F (R325). -/
def execSraA (s : State) : Outcome := .next (changeReg (shift8 .sra) .a s)

/-- `SWAP B`, 0xCB30 (R327). -/
def execSwapB (s : State) : Outcome := .next (changeReg (shift8 .swap) .b s)

/-- `SWAP C`, 0xCB31 (R327). -/
def execSwapC (s : State) : Outcome := .next (changeReg (shift8 .swap) .c s)

/-- `SWAP D`, 0xCB32 (R327). -/
def execSwapD (s : State) : Outcome := .next (changeReg (shift8 .swap) .d s)

/-- `SWAP E`, 0xCB33 (R327). -/
def execSwapE (s : State) : Outcome := .next (changeReg (shift8 .swap) .e s)

/-- `SWAP H`, 0xCB34 (R327). -/
def execSwapH (s : State) : Outcome := .next (changeReg (shift8 .swap) .h s)

/-- `SWAP L`, 0xCB35 (R327). -/
def execSwapL (s : State) : Outcome := .next (changeReg (shift8 .swap) .l s)

/-- `SWAP (HL)`, 0xCB36 (R328). -/
def execSwapAtHl (s : State) : Outcome := .next (modifyHl (shift8 .swap) 2 16 s)

/-- `SWAP A`, 0xCB37 (R327). -/
def execSwapA (s : State) : Outcome := .next (changeReg (shift8 .swap) .a s)

/-- `SRL B`, 0xCB38 (R329). -/
def execSrlB (s : State) : Outcome := .next (changeReg (shift8 .srl) .b s)

/-- `SRL C`, 0xCB39 (R329). -/
def execSrlC (s : State) : Outcome := .next (changeReg (shift8 .srl) .c s)

/-- `SRL D`, 0xCB3A (R329). -/
def execSrlD (s : State) : Outcome := .next (changeReg (shift8 .srl) .d s)

/-- `SRL E`, 0xCB3B (R329). -/
def execSrlE (s : State) : Outcome := .next (changeReg (shift8 .srl) .e s)

/-- `SRL H`, 0xCB3C (R329). -/
def execSrlH (s : State) : Outcome := .next (changeReg (shift8 .srl) .h s)

/-- `SRL L`, 0xCB3D (R329). -/
def execSrlL (s : State) : Outcome := .next (changeReg (shift8 .srl) .l s)

/-- `SRL (HL)`, 0xCB3E (R330). -/
def execSrlAtHl (s : State) : Outcome := .next (modifyHl (shift8 .srl) 2 16 s)

/-- `SRL A`, 0xCB3F (R329). -/
def execSrlA (s : State) : Outcome := .next (changeReg (shift8 .srl) .a s)

end Sys2Proof.Machine
end

