-- ==== Sys2Proof/Machine/Ppu.lean ====
section
/-! DEFINITION. The PPU: the scanline state machine and the rasterizer (60_exceptions.md R440 to R459). -/
namespace Sys2Proof.Machine

/-! ### Rasterizing one line -/

/-- `MemVRAM(a)`: the byte of video RAM at the address `a`, read directly (R450). -/
def State.vramByte (s : State) (a : Nat) : Byte := s.mem.get a

/-- `OAM[i]` (10_state.md R54). -/
def State.oamByte (s : State) (i : Nat) : Byte := s.mem.get (0xFE00 + i)

/-- A palette's shade of a colour index: `(P >> (2*i)) AND 3` (10_state.md R48). -/
def shadeOf (p : Byte) (i : Shade) : Shade := p.extractLsb' (2 * i.toNat) 2

/-- The colour index of bit `i` of a tile row: `2 * hi[i] + lo[i]` (R452). -/
def colourIndex (low high : Byte) (i : Nat) : Shade := BitVec.ofBool (high.getLsbD i) ++ BitVec.ofBool (low.getLsbD i)

/-- The address of a background tile (R451): an unsigned index from 0x8000, or a signed one from 0x9000. -/
def tileAddr (lcdc t : Byte) : Nat :=
  if lcdc.getLsbD 4 then 0x8000 + 16 * t.toNat else ((0x9000 : Int) + 16 * t.toInt).toNat

/-- The background's colour index at column `x` of line `ly` (R450). -/
def State.bgIndex (s : State) (ly x : Nat) : Shade :=
  let map  := if s.io.lcdc.getLsbD 3 then 0x9C00 else 0x9800
  let row  := (ly + s.io.scy.toNat) % 256
  let col  := (x + s.io.scx.toNat) % 256
  let t    := s.vramByte (map + row / 8 * 32 + col / 8)
  let addr := tileAddr s.io.lcdc t + row % 8 * 2
  colourIndex (s.vramByte addr) (s.vramByte (addr + 1)) (7 - col % 8)

/-- The background's shade: through BGP, or shade 0 where LCDC bit 0 is 0 (R450, R453). -/
def State.bgShade (s : State) (ly x : Nat) : Shade :=
  if s.io.lcdc.getLsbD 0 then shadeOf s.io.bgp (s.bgIndex ly x) else 0#2

/-- The sprite height (R454). -/
def State.spriteHeight (s : State) : Nat := if s.io.lcdc.getLsbD 2 then 16 else 8

/-- The screen row of slot `k`'s first line: `OAM[4k] - 16`, in the integers (R454). -/
def State.spriteY (s : State) (k : Nat) : Int := (s.oamByte (4 * k)).toNat - 16

/-- The screen column of slot `k`'s first pixel: `OAM[4k+1] - 8`, in the integers (R454). -/
def State.spriteX (s : State) (k : Nat) : Int := (s.oamByte (4 * k + 1)).toNat - 8

/-- Slot `k` covers line `ly`: `y <= ly < y + h` (R454). -/
def State.spriteCovers (s : State) (ly k : Nat) : Bool :=
  decide (s.spriteY k ≤ ly ∧ (ly : Int) < s.spriteY k + s.spriteHeight)

/-- The address of the two bytes of slot `k`'s row on line `ly`: Y-flip, and the even tile of an 8 by 16 sprite (R454, R457). -/
def State.spriteRowAddr (s : State) (ly k : Nat) : Nat :=
  let r0 := ((ly : Int) - s.spriteY k).toNat
  let r  := if (s.oamByte (4 * k + 3)).getLsbD 6 then s.spriteHeight - 1 - r0 else r0
  let t0 := s.oamByte (4 * k + 2)
  let t  := if s.spriteHeight = 16 then t0 &&& 0xFE#8 else t0
  0x8000 + 16 * t.toNat + 2 * r

/-- The colour index of pixel `p` of slot `k` on line `ly`, with X-flip (R454). -/
def State.spriteIndex (s : State) (ly k p : Nat) : Shade :=
  let addr := s.spriteRowAddr ly k
  let bit  := if (s.oamByte (4 * k + 3)).getLsbD 5 then p else 7 - p
  colourIndex (s.vramByte addr) (s.vramByte (addr + 1)) bit

/-- The object palette of slot `k` (R454). -/
def State.spritePalette (s : State) (k : Nat) : Byte :=
  if (s.oamByte (4 * k + 3)).getLsbD 4 then s.io.obp1 else s.io.obp0

/-- Pixel `p` of slot `k` drawn into the line: nothing outside the screen, and nothing for colour index 0 (R454, R455). -/
def State.drawPixel (s : State) (ly k : Nat) (line : List Shade) (p : Nat) : List Shade :=
  let sx := s.spriteX k + p
  let ci := s.spriteIndex ly k p
  if 0 ≤ sx ∧ sx < 160 ∧ ci ≠ 0#2 then line.set sx.toNat (shadeOf (s.spritePalette k) ci) else line

/-- Slot `k` drawn into the line, where it covers it (R454). -/
def State.drawSprite (s : State) (ly : Nat) (line : List Shade) (k : Nat) : List Shade :=
  if s.spriteCovers ly k then (List.range 8).foldl (s.drawPixel ly k) line else line

/-- The slots in drawing order (R456). -/
def slotOrder : SpriteOrder → List Nat
  | .laterWins   => List.range 40
  | .earlierWins => (List.range 40).reverse

/-- The line `ly` as `RenderLine` computes it (R447, R448): shade 0 with the LCD off; else the background, then the sprites where
LCDC bit 1 is 1 (R458). -/
def State.lineShades (s : State) (ly : Nat) : List Shade :=
  if s.io.lcdc.getLsbD 7 then
    let bg := (List.range 160).map (s.bgShade ly)
    if s.io.lcdc.getLsbD 1 then (slotOrder s.params.spriteOrder).foldl (s.drawSprite ly) bg else bg
  else List.replicate 160 0#2

/-- `RenderLine(ly)` (R448). -/
def State.renderLine (s : State) (ly : Nat) : State :=
  { s with ppu := { s.ppu with fb := s.ppu.fb.set ly (s.lineShades ly) } }

/-! ### The scanline state machine -/

/-- The machine state that `MODE3_LEN` may depend on: everything but what is the model's own, the outside world, the step's output
and the latch of the line before (R441, R485). -/
def State.machinePart (s : State) : State :=
  { s with ppu := { s.ppu with mode3Len := 172 }, ext := External.initial, out := none }

/-- `MODE3_LEN` for the line that is about to begin mode 3: the constant, or a free value in 1..375 that is a function of the
scanline and the machine state (R441), so that equal machines have equal lengths (R485). -/
def State.mode3Length (s : State) : Nat :=
  match s.params.mode3 with
  | .constant n => n
  | .dependent  => 1 + Config.mode3Raw s.ppu.ly s.machinePart % 375

/-- The end of OAM scan: mode 3 begins and its length is fixed (R443, R441). -/
def State.beginTransfer (s : State) : State :=
  { s with ppu := { s.ppu with mode := .transfer, mode3Len := s.mode3Length } }

/-- The end of pixel transfer: the line is rendered and mode 0 begins (R443). -/
def State.endTransfer (s : State) : State :=
  let t := s.renderLine s.ppu.ly
  { t with ppu := { t.ppu with mode := .hblank } }

/-- The mode changes inside a visible line, for the `dot` just reached (R443). -/
def State.lineEvents (s : State) : State :=
  if s.ppu.ly < 144 then
    if s.ppu.dot = 80 then s.beginTransfer
    else if s.ppu.dot = 80 + s.ppu.mode3Len then s.endTransfer
    else s
  else s

/-- The end of a line (R443 to R445): the next line, and whether vertical blank was entered. -/
def State.endLine (s : State) : State × Bool :=
  let ly := s.ppu.ly + 1
  if ly = 144 then
    ({ s with ppu := { s.ppu with dot := 0, ly := ly, mode := .vblank } }.requestInterrupt 0, true)
  else if ly = 154 then ({ s with ppu := { s.ppu with dot := 0, ly := 0, mode := .oamScan } }, false)
  else if ly < 144 then ({ s with ppu := { s.ppu with dot := 0, ly := ly, mode := .oamScan } }, false)
  else ({ s with ppu := { s.ppu with dot := 0, ly := ly } }, false)

/-- `PPUTick()` (R443): the state after it, and whether it entered vertical blank. -/
def State.ppuTick (s : State) : State × Bool :=
  let t := State.lineEvents { s with ppu := { s.ppu with dot := s.ppu.dot + 1 } }
  if t.ppu.dot = 456 then t.endLine else (t, false)

/-- `AdvancePPU(n)` (R440): `n` ticks, and whether one of them entered vertical blank. -/
def advancePpu : Nat → State → State × Bool
  | 0, s => (s, false)
  | n + 1, s =>
    let r := s.ppuTick
    let q := advancePpu n r.1
    (q.1, r.2 || q.2)

end Sys2Proof.Machine
end

