-- ==== Sys2Proof/Machine/Run.lean ====
section
/-! DEFINITION. One step of the machine, 60_exceptions.md R400: the halted wait, the interrupt dispatch, or the fetch and the
execution of one instruction, and the PPU advance. -/
namespace Sys2Proof.Machine

/-- The end of a step that consumed `n` cycles: the PPU advances by them, and the step returns the pair (R400). -/
def State.completeStep (s : State) (n : Nat) : State :=
  let r := advancePpu n s
  { r.1 with out := some { cycles := n, frameComplete := r.2 } }

/-- The end of an executed instruction: EndOfInstruction, then the PPU advance by its cycles (R400, R402). Where the instruction
stopped the machine the step returns none and nothing more happens (R420). -/
def State.retire (s : State) : State :=
  match s.out with
  | some o => s.endOfInstruction.completeStep o.cycles
  | none   => s

/-- The fetch of the opcode (30_encoding.md R131): its value, its entry in the tables, and the state after the reads. -/
def State.fetchOpcode (s : State) : BitVec 16 × Entry × State :=
  let b0 := s.readByte s.regs.pc
  let s1 := s.afterRead s.regs.pc
  match entryE1 b0 with
  | .extended =>
    let a  := s.regs.pc + 1#16
    let b1 := s1.readByte a
    (cat 0xCB#8 b1, .one (decodeExt b1), s1.afterRead a)
  | e => (cat 0x00#8 b0, e, s1)

/-- The fetch of the remaining bytes that the entry's format gives, in order, and the instruction they complete (R131). STOP's
second byte is never fetched (R142). -/
def State.fetchOperands (s : State) (e : Entry) : Instr × State :=
  let a1 := s.regs.pc + 1#16
  let a2 := s.regs.pc + 2#16
  match e with
  | .one i       => (i, s)
  | .twoUnread i => (i, s)
  | .two build   => (build (s.readByte a1), s.afterRead a1)
  | .three build =>
    let s1 := s.afterRead a1
    (build (cat (s1.readByte a2) (s.readByte a1)), s1.afterRead a2)
  | .extended    => (decodeExt (s.readByte a1), s.afterRead a1)

/-- The instruction, executed and retired. -/
def runDecoded (i : Instr) (s : State) : Outcome :=
  match exec i s with
  | .next t    => .next t.retire
  | .fault r   => .fault r
  | .refused r => .refused r

/-- The fetch, the membership test and the execution of one instruction (R400, R420). The opcodes outside `IMPLEMENTED` are those
left out and, through their own meanings, STOP and the illegal ones. -/
def State.runInstruction (s : State) : Outcome :=
  let f := s.fetchOpcode
  if s.params.leftOut.contains f.1 then .next (f.2.2.raiseFatal f.1)
  else
    let g := f.2.2.fetchOperands f.2.1
    runDecoded g.1 g.2

/-- A halted step that finds no enabled request waits (R401). -/
def State.waits (s : State) : Bool := s.ctl.halted && decide (s.enabledRequests = 0#5)

/-- The wake: `halted <- 0` (R401). -/
def State.wake (s : State) : State := { s with ctl := { s.ctl with halted := false } }

/-- `step()` of R400 on a machine that is not in the fatal state. -/
def machineStep (s : State) : Outcome :=
  if s.waits then .next (s.completeStep 4)
  else if s.wake.dispatchPending then .next (s.wake.dispatchInterrupt.completeStep 20)
  else s.wake.runInstruction

end Sys2Proof.Machine
end

