-- ==== Sys2Proof/Machine/Facade.lean ====
section
/-! DEFINITION. The facade: construction, the reset boundary, the frame yield and the step loop's one iteration
(60_exceptions.md R480 to R483, 70_reset_and_hazards.md R500 to R511), and the placing of a program's bytes. -/
namespace Sys2Proof.Machine

/-- Construction from a cartridge image (70 R501): only from exactly 32768 bytes (R510, R511). -/
def State.construct (p : Params) (image : List Byte) : Option State :=
  if image.length = 32768 then some (State.resetWith p (Memory.ofImage 0 image) External.initial) else none

/-- `reset()` (70 R502): every piece of state but ROM takes its reset value again. The parameters and the outside world are not
state of the machine and stay (notes/assumptions/18.md). -/
def State.hostReset (s : State) : State := State.resetWith s.params s.mem.romPart s.ext

/-- The eight buttons from the bits of a byte: right, left, up, down, a, b, select, start from bit 0 up. -/
def Buttons.ofByte (v : Byte) : Buttons where
  right  := v.getLsbD 0
  left   := v.getLsbD 1
  up     := v.getLsbD 2
  down   := v.getLsbD 3
  a      := v.getLsbD 4
  b      := v.getLsbD 5
  select := v.getLsbD 6
  start  := v.getLsbD 7

/-- The state with the queue of the host's actions replaced. -/
def State.withYields (s : State) (q : List HostAction) : State := { s with ext := { s.ext with yields := q } }

/-- The host's turn at a frame yield (60 R481 to R483): its next queued action, or a report of free button states where none is
queued (notes/assumptions/6.md). -/
def State.hostTurn (s : State) : State :=
  match s.ext.yields with
  | .resume :: q   => s.withYields q
  | .report b :: q => { s.withYields q with buttons := b }
  | .reset :: q    => (s.withYields q).hostReset
  | .stop :: q     => { s.withYields q with ext := { (s.withYields q).ext with stopped := true } }
  | []             =>
    { s with
      buttons := Buttons.ofByte (Config.buttonsDraw s.ext.buttonsPos)
      ext := { s.ext with buttonsPos := s.ext.buttonsPos + 1 } }

/-- The frame yield after a step that reported a completed frame (60 R481). -/
def State.frameYield (s : State) : State :=
  match s.out with
  | some o => if o.frameComplete then s.hostTurn else s
  | none   => s

/-- After a fatal stop the loop has ended and the record is reported (60 R403, R482); the host may reset the machine (70 R502). -/
def afterFatal (r : FatalRecord) (s : State) : Outcome :=
  match s.ext.yields with
  | .reset :: q => .next (s.withYields q).hostReset
  | _           => .fault (.fatalStop r.op r.pc)

/-- One iteration of the facade's loop (60 R480): a step, and the frame yield where it completed a frame. -/
def facadeStep (s : State) : Outcome :=
  if s.ext.stopped then .fault .hostStopped
  else
    match s.ctl.fatal with
    | some r => afterFatal r s
    | none   =>
      match machineStep s with
      | .next t    => .next t.frameYield
      | .fault r   => .fault r
      | .refused r => .refused r

/-- The bytes stored at consecutive addresses from `a` on, where an array backs them. -/
def placeBytes (a : Word) : List Byte → Memory → Memory
  | [], m => m
  | v :: r, m => placeBytes (a + 1#16) r (if backed a.toNat then m.put a.toNat v else m)

/-- The address where an instruction can be placed: PC, or the entry point where an array does not back three bytes at PC. -/
def State.placeAddr (s : State) : Word :=
  if backed s.regs.pc.toNat && backed (s.regs.pc + 1#16).toNat && backed (s.regs.pc + 2#16).toNat then s.regs.pc
  else 0x0100#16

/-- The instruction's bytes placed where the next step fetches, and what keeps that step from a fetch removed: a stop, a fatal
record, a halt, a pending dispatch, a parameter that leaves the opcode out. In the state after reset only memory changes. -/
def State.placeInstruction (s : State) (bytes : List Byte) : State :=
  let a := s.placeAddr
  { s with
    regs := { s.regs with pc := a }
    ctl := { s.ctl with halted := false, fatal := none, ime := s.ctl.ime && !s.dispatchPending }
    mem := placeBytes a bytes s.mem
    params := { s.params with leftOut := [] }
    ext := { s.ext with stopped := false } }

end Sys2Proof.Machine
end

