-- ==== Sys2Proof/Machine/Step.lean ====
section
/-! DEFINITION. The machine's step: one iteration of the facade's loop (60_exceptions.md R480), and the placing of an instruction
for it. -/
namespace Sys2Proof.Machine

/-- One step. -/
def step (s : State) : Host.Outcome State Fault Refusal := facadeStep s

/-- The state with the instruction whose bits, numbered as opcode_table.json numbers them, are `w` stored where `step` fetches
next; it stands for the loading of a program into the cartridge (notes/assumptions/3.md). -/
def State.withFetchWord (s : State) (nbits w : Nat) : State := s.placeInstruction (tableBytes nbits w)

end Sys2Proof.Machine
end

