-- ==== Sys2Proof/Safety.lean ====
section
/-! DEFINITION. The terms the claims use: the fields of an encoding, `IMPLEMENTED`, the invariant of a run, and what an
instruction leaves unchanged. -/
namespace Sys2Proof

/-! ### Encodings -/

/-- The 3-bit field of a register in `R8` (30_encoding.md R135; 6 is the byte at HL). -/
def Reg8.code : Reg8 → BitVec 3
  | .b => 0 | .c => 1 | .d => 2 | .e => 3 | .h => 4 | .l => 5 | .a => 7

/-- The 3-bit field of an operand (R135). -/
def Operand8.code : Operand8 → BitVec 3
  | .reg r => r.code
  | .atHl  => 6

/-- The 2-bit field of a pair in `R16` (R136). -/
def Pair.code : Pair → BitVec 2
  | .bc => 0 | .de => 1 | .hl => 2 | .sp => 3

/-- The 2-bit field of a pair in `R16S` (R137). -/
def StackPair.code : StackPair → BitVec 2
  | .bc => 0 | .de => 1 | .hl => 2 | .af => 3

/-- The 2-bit field of a condition (R138). -/
def Cond.code : Cond → BitVec 2
  | .nz => 0 | .z => 1 | .nc => 2 | .c => 3

/-- The condition on the flags Z and C (R138): NZ is true when Z is 0, Z when Z is 1, NC when C is 0, C when C is 1. -/
def Cond.test (cc : Cond) (z cy : Bool) : Bool :=
  match cc with
  | .nz => !z
  | .z  => z
  | .nc => !cy
  | .c  => cy

/-- The field `y` of an operation on A (R139). -/
def AluOp.code : AluOp → BitVec 3
  | .add => 0 | .adc => 1 | .sub => 2 | .sbc => 3 | .and => 4 | .xor => 5 | .or => 6 | .cp => 7

/-- The field `y` of a prefixed shift (44_rotate_shift.md R314). -/
def RotOp.code : RotOp → BitVec 3
  | .rlc => 0 | .rrc => 1 | .rl => 2 | .rr => 3 | .sla => 4 | .sra => 5 | .swap => 6 | .srl => 7

/-- The opcode byte `xxyyyzzz` (R130). -/
def opXYZ (x : BitVec 2) (y z : BitVec 3) : Byte := x ++ y ++ z

/-- The opcode byte `xxppqzzz` with its low four bits given (R130). -/
def opXP (x p : BitVec 2) (low : BitVec 4) : Byte := x ++ p ++ low

/-- The bytes spell exactly this instruction. -/
def Spells (bytes : List Byte) (i : Instr) : Prop := ∀ rest, decode (bytes ++ rest) = .ok (i, rest)

/-- The base opcodes of three bytes (Table E1). -/
def threeByteOps : List Byte :=
  [0x01, 0x08, 0x11, 0x21, 0x31, 0xC2, 0xC3, 0xC4, 0xCA, 0xCC, 0xCD, 0xD2, 0xD4, 0xDA, 0xDC, 0xEA, 0xFA]

/-- The base opcodes of two bytes, STOP among them (Table E1). -/
def twoByteOps : List Byte :=
  [0x06, 0x0E, 0x10, 0x16, 0x18, 0x1E, 0x20, 0x26, 0x28, 0x2E, 0x30, 0x36, 0x38, 0x3E] ++
  [0xC6, 0xCE, 0xD6, 0xDE, 0xE0, 0xE6, 0xE8, 0xEE, 0xF0, 0xF6, 0xF8, 0xFE]

/-- The length that the first byte fixes (R132): 2 for 0xCB, else the length column of Table E1. -/
def lengthOf (b0 : Byte) : Nat :=
  if b0 ∈ threeByteOps then 3 else if b0 ∈ twoByteOps ∨ b0 = 0xCB#8 then 2 else 1

/-- The illegal opcodes (R141). -/
def illegalOps : List Byte := [0xD3, 0xDB, 0xDD, 0xE3, 0xE4, 0xEB, 0xEC, 0xED, 0xF4, 0xFC, 0xFD]

/-- The opcode value of an instruction's bytes (R131): the byte, or 0xCB00 plus the second byte. -/
def opcodeOf : List Byte → BitVec 16
  | b0 :: b1 :: _ => if b0 = 0xCB#8 then cat b0 b1 else cat 0#8 b0
  | b0 :: []      => cat 0#8 b0
  | []            => 0#16

/-- `IMPLEMENTED` (00_scope.md R10): a defined opcode (R140) that is not STOP and that the parameters do not leave out. -/
def implemented (p : Params) (op : BitVec 16) : Bool :=
  (decide (hi op = 0xCB#8) || (decide (hi op = 0#8) && decide (lo op ∉ illegalOps) && decide (lo op ≠ 0x10#8) &&
    decide (lo op ≠ 0xCB#8))) && !p.leftOut.contains op

namespace Machine

/-! ### The invariant of a run -/

/-- The frame buffer has its fixed size (10_state.md R52). -/
def FrameBuffer.wf (fb : FrameBuffer) : Bool := decide (fb.length = 144) && fb.all (fun row => decide (row.length = 160))

/-- The mode that 60_exceptions.md R443 gives the PPU at a scanline and dot. -/
def modeAt (ly dot mode3Len : Nat) : PpuMode :=
  if 144 ≤ ly then .vblank
  else if dot < 80 then .oamScan
  else if dot < 80 + mode3Len then .transfer
  else .hblank

/-- The PPU's counters are in range and its mode is the one they give (10_state.md R52, 60_exceptions.md R443). -/
def Ppu.wf (p : Ppu) : Bool :=
  decide (p.ly < 154) && decide (p.dot < 456) && decide (1 ≤ p.mode3Len ∧ p.mode3Len ≤ 375) &&
    decide (p.mode = modeAt p.ly p.dot p.mode3Len) && p.fb.wf

/-- Between steps the EI delay has at most one instruction to go, and only while IME is 0 (10_state.md R39, 47 R375). -/
def Control.wf (c : Control) : Bool := decide (c.imeDelay ≤ 1) && (decide (c.imeDelay = 0) || !c.ime)

/-- The invariant of a run: memory in canonical form, the PPU consistent, the EI delay in range, the parameters legal. -/
def State.inv (s : State) : Bool := s.mem.wf && s.ppu.wf && s.ctl.wf && s.params.wf

/-- The place in the frame, in cycles (60_exceptions.md R446). -/
def Ppu.position (p : Ppu) : Nat := p.ly * 456 + p.dot

/-- A fatal record names an opcode outside IMPLEMENTED, at the address where PC still stands (60_exceptions.md R420, R421). -/
def State.fatalOk (s : State) : Prop :=
  ∀ r, s.ctl.fatal = some r → implemented s.params r.op = false ∧ r.pc = s.regs.pc

/-! ### When a step runs an instruction -/

/-- The machine goes on: no stop requested and no fatal record. -/
def State.live (s : State) : Bool := !s.ext.stopped && decide (s.ctl.fatal = none)

/-- The step executes an instruction: it neither waits nor dispatches (60_exceptions.md R400). -/
def State.fetches (s : State) : Bool := s.live && !s.waits && !s.dispatchPending

/-- The bytes read at `a`, `a+1`, ... in order, and the state after the reads (30_encoding.md R131). -/
def fetchBytes (a : Word) : Nat → State → List Byte × State
  | 0, s => ([], s)
  | n + 1, s =>
    let r := fetchBytes (a + 1#16) n (s.afterRead a)
    (s.readByte a :: r.1, r.2)

/-! ### What an instruction leaves unchanged -/

/-- Every byte reads as before. -/
def SameBytes (s t : State) : Prop := ∀ x, t.readByte x = s.readByte x

/-- Everything but the registers and the step's output is unchanged, every byte of memory among it. -/
def OnlyRegs (s t : State) : Prop :=
  t.ctl = s.ctl ∧ t.irq = s.irq ∧ t.io = s.io ∧ t.ppu = s.ppu ∧ t.mem = s.mem ∧ t.buttons = s.buttons ∧
    t.params = s.params ∧ t.ext = s.ext ∧ SameBytes s t

/-- Everything but the registers and the step's output is unchanged by a read of the byte at `a`; only a read of DIV consumes a
draw, so that only DIV reads otherwise (20_memory.md R80, R87, 60_exceptions.md R470). -/
def ReadEffect (s t : State) (a : Word) : Prop :=
  t.ctl = s.ctl ∧ t.irq = s.irq ∧ t.io = s.io ∧ t.ppu = s.ppu ∧ t.mem = s.mem ∧ t.buttons = s.buttons ∧
    t.params = s.params ∧ (a ≠ divAddr → t.ext = s.ext) ∧ (a = divAddr → t.ext = s.consumeDraw.ext) ∧
    ∀ x, ¬(a = divAddr ∧ x = divAddr) → t.readByte x = s.readByte x

/-- What a read of `a` answers after the byte `v` was written there (20_memory.md R70, R84): the byte where an array or a whole
register stores it, the composed value of P1, IF and STAT, and what it answered before where the write is dropped. -/
def readBack (s : State) (a : Word) (v : Byte) : Byte :=
  let k := a.toNat
  if k < 0x8000 then s.readByte a
  else if backed k || decide (k = 0xFFFF) then v
  else if k = 0xFF00 then p1Value (v.extractLsb' 4 2) s.buttons
  else if k = 0xFF0F then 0xE0#8 ||| (v &&& 0x1F#8)
  else if k = 0xFF41 then 0x80#8 ||| (v &&& 0x78#8) ||| (s.readByte a &&& 0x07#8)
  else if k = 0xFF04 ∨ k = 0xFF44 then s.readByte a
  else if 0xFF40 ≤ k ∧ k ≤ 0xFF4B then v
  else 0xFF#8

/-- The address of byte `i` of the copy that a write of `v` to the DMA register makes (R90). -/
def copySource (v : Byte) (i : Nat) : Word := cat v (BitVec.ofNat 8 i)

/-- Byte `i` of that copy: what its source address answers, with the DMA latch already holding `v` (R90). -/
def copied (s : State) (v : Byte) (i : Nat) : Byte := if copySource v i = 0xFF46#16 then v else s.readByte (copySource v i)

/-- The addresses whose read can change when the byte `v` is written at `a`: `a`; STAT's coincidence bit for LYC; OAM and, for a
copy from page 0xFF, DIV for the DMA register (20_memory.md R84, R88, R90). -/
def Touched (a : Word) (v : Byte) (x : Word) : Prop :=
  x = a ∨ (a = 0xFF45#16 ∧ x = 0xFF41#16) ∨ (a = 0xFF46#16 ∧ 0xFE00 ≤ x.toNat ∧ x.toNat < 0xFEA0) ∨
    (a = 0xFF46#16 ∧ v = 0xFF#8 ∧ x = divAddr)

/-- What STAT answers after the byte `v` was written to LYC (20_memory.md R84, R88): bits 7 to 3 and 1 to 0 as before, and bit 2
from the new LYC. -/
def statAfterLyc (s : State) (v : Byte) : Byte :=
  (s.readByte 0xFF41#16 &&& 0xFB#8) ||| (if s.ppu.ly = v.toNat then 0x04#8 else 0x00#8)

/-- The whole effect of writing the byte `v` at `a`: what reads back there, STAT where LYC was written, the copy that the DMA
register makes, and that nothing else changes but the registers and the step's output. Every stored field shows in a read, and
memory stays in canonical form, so no field is left open. -/
def StoreEffect (s t : State) (a : Word) (v : Byte) : Prop :=
  t.ctl = s.ctl ∧ t.ppu = s.ppu ∧ t.buttons = s.buttons ∧ t.params = s.params ∧ t.mem.wf = true ∧
    t.ext = (if a = 0xFF46#16 ∧ v = 0xFF#8 then s.consumeDraw.ext else s.ext) ∧
    (a ≠ 0xFF0F#16 ∧ a ≠ 0xFFFF#16 → t.irq = s.irq) ∧ t.readByte a = readBack s a v ∧
    (a = 0xFF45#16 → t.readByte 0xFF41#16 = statAfterLyc s v) ∧
    (a = 0xFF46#16 → ∀ i, i < 160 → t.readByte (BitVec.ofNat 16 (0xFE00 + i)) = copied s v i) ∧
    ∀ x, ¬Touched a v x → t.readByte x = s.readByte x

/-- Two bytes written one after the other. -/
def StoreEffect2 (s t : State) (a1 : Word) (v1 : Byte) (a2 : Word) (v2 : Byte) : Prop :=
  StoreEffect s (s.writeByte a1 v1) a1 v1 ∧ StoreEffect (s.writeByte a1 v1) t a2 v2

/-- The registers after an instruction that writes only those of the list and PC. -/
def RegsKept (l : List Reg8) (s t : State) : Prop :=
  (∀ r, r ∉ l → t.regs.get8 r = s.regs.get8 r) ∧ t.regs.f = s.regs.f ∧ t.regs.sp = s.regs.sp

/-- The registers after an instruction that writes only those of the list, the flags and PC. -/
def RegsKeptButF (l : List Reg8) (s t : State) : Prop :=
  (∀ r, r ∉ l → t.regs.get8 r = s.regs.get8 r) ∧ t.regs.sp = s.regs.sp

/-- The registers after an instruction that writes only those of the list, SP and PC. -/
def RegsKeptButSp (l : List Reg8) (s t : State) : Prop :=
  (∀ r, r ∉ l → t.regs.get8 r = s.regs.get8 r) ∧ t.regs.f = s.regs.f

/-- PC and the cycles the instruction returns (00_scope.md R17). -/
def Ends (t : State) (pc : Word) (n : Nat) : Prop :=
  t.regs.pc = pc ∧ t.out = some { cycles := n, frameComplete := false }

/-- `Push16(v)` (00_scope.md R16): the high byte at SP - 1, then the low byte at SP - 2; no other register changes but PC. -/
def PushEffect (s t : State) (v : Word) : Prop :=
  StoreEffect2 s t (s.regs.sp - 1#16) (hi v) (s.regs.sp - 2#16) (lo v) ∧ t.regs.sp = s.regs.sp - 2#16 ∧ RegsKeptButSp [] s t

/-- The value `Pop16()` returns (R16): the low byte is read first, at SP, the high byte at SP + 1. -/
def popped (s : State) : Word := cat ((s.afterRead s.regs.sp).readByte (s.regs.sp + 1#16)) (s.readByte s.regs.sp)

/-- What `Pop16()` leaves (R16): two reads, and SP moved by 2. -/
def PopEffect (s t : State) : Prop :=
  ReadEffect s (s.afterRead s.regs.sp) s.regs.sp ∧ ReadEffect (s.afterRead s.regs.sp) t (s.regs.sp + 1#16) ∧
    t.regs.sp = s.regs.sp + 2#16

/-- A read-modify-write of the byte at HL (20_memory.md R97): the read, then the write of `v`. -/
def ModifyEffect (s t : State) (v : Byte) : Prop :=
  ReadEffect s (s.afterRead s.hl) s.hl ∧ StoreEffect (s.afterRead s.hl) t s.hl v

end Machine

/-! ### What the rules compute -/

/-- The 8-bit registers a pair is a view of (10_state.md R31). -/
def Pair.halves : Pair → List Reg8
  | .bc => [.b, .c] | .de => [.d, .e] | .hl => [.h, .l] | .sp => []

/-- The 8-bit registers, F apart, a stack pair is a view of (R31). -/
def StackPair.halves : StackPair → List Reg8
  | .bc => [.b, .c] | .de => [.d, .e] | .hl => [.h, .l] | .af => [.a]

/-- The result `r` and the carry-out `co` of a shift, from the operand and the old carry, as the pseudocode of
44_rotate_shift.md R310 to R329 computes them in the naturals. -/
def shiftSpec (op : RotOp) (v c : Nat) : Nat × Nat :=
  let b0 := v % 2
  let b7 := v / 128
  match op with
  | .rlc  => (v * 2 % 256 ||| b7, b7)
  | .rrc  => (v / 2 ||| b0 * 0x80, b0)
  | .rl   => (v * 2 % 256 ||| c, b7)
  | .rr   => (v / 2 ||| c * 0x80, b0)
  | .sla  => (v * 2 % 256, b7)
  | .sra  => (v / 2 ||| (v &&& 0x80), b0)
  | .swap => ((v &&& 0x0F) * 16 ||| v / 16, 0)
  | .srl  => (v / 2, b0)

/-- DAA's result and carry from A, N, H and C, as the pseudocode of 42_alu8.md R279 computes them in the naturals. -/
def daaSpec (a : Nat) (n h c : Bool) : Nat × Bool :=
  if n then
    let a1 := if c then (a + 0xA0) % 256 else a
    let a2 := if h then (a1 + 0xFA) % 256 else a1
    (a2, c)
  else
    let fix := c || decide (a > 0x99)
    let a1 := if fix then (a + 0x60) % 256 else a
    let a2 := if h || decide (a1 % 16 > 0x09) then (a1 + 0x06) % 256 else a1
    (a2, fix)

/-- A byte of two packed decimal digits. -/
def Packed (v : Byte) : Prop := v.toNat / 16 ≤ 9 ∧ v.toNat % 16 ≤ 9

/-- The number that two packed decimal digits write. -/
def decimal (v : Byte) : Nat := 10 * (v.toNat / 16) + v.toNat % 16

namespace Machine

/-- The result of an operation on A in its three addressing modes (42_alu8.md R251 to R274): `res` gives the new A and the flags
from A, the operand and the old flags. -/
def AluForms (op : AluOp) (res : Byte → Byte → Flags → AluResult) : Prop :=
  (∀ (r : Reg8) (s : State), Spells [opXYZ 2 op.code r.code] (Form.alu op r) ∧
    ∃ t, exec (Form.alu op r) s = .next t ∧
      t.regs.a = (res s.regs.a (s.regs.get8 r) s.regs.f).value ∧ t.regs.f = (res s.regs.a (s.regs.get8 r) s.regs.f).flags ∧
      RegsKeptButF [.a] s t ∧ OnlyRegs s t ∧ Ends t (s.regs.pc + 1#16) 4) ∧
  (∀ s : State, Spells [opXYZ 2 op.code 6] (Form.aluAtHl op) ∧
    ∃ t, exec (Form.aluAtHl op) s = .next t ∧
      t.regs.a = (res s.regs.a (s.readByte s.hl) s.regs.f).value ∧ t.regs.f = (res s.regs.a (s.readByte s.hl) s.regs.f).flags ∧
      RegsKeptButF [.a] s t ∧ ReadEffect s t s.hl ∧ Ends t (s.regs.pc + 1#16) 8) ∧
  (∀ (n : Byte) (s : State), Spells [opXYZ 3 op.code 6, n] (Form.aluImm op n) ∧
    ∃ t, exec (Form.aluImm op n) s = .next t ∧
      t.regs.a = (res s.regs.a n s.regs.f).value ∧ t.regs.f = (res s.regs.a n s.regs.f).flags ∧
      RegsKeptButF [.a] s t ∧ OnlyRegs s t ∧ Ends t (s.regs.pc + 2#16) 8)

/-- `A <- MemRead(a, 1)` (40_load8.md R205, R206, R213, R215, R217), where `a` is the address the state gives. -/
def LoadsA (i : Instr) (a : State → Word) (len n : Nat) : Prop :=
  ∀ s : State, ∃ t, exec i s = .next t ∧
    t.regs.a = s.readByte (a s) ∧ RegsKept [.a] s t ∧ ReadEffect s t (a s) ∧ Ends t (s.regs.pc + BitVec.ofNat 16 len) n

/-- `MemWrite(a, 1, A)` (40_load8.md R207, R208, R214, R216, R218), where `a` is the address the state gives. -/
def StoresA (i : Instr) (a : State → Word) (len n : Nat) : Prop :=
  ∀ s : State, s.mem.wf = true → ∃ t, exec i s = .next t ∧
    StoreEffect s t (a s) s.regs.a ∧ RegsKept [] s t ∧ Ends t (s.regs.pc + BitVec.ofNat 16 len) n

/-- The instruction and then DAA both complete, and leave the decimal number `n` in A with the decimal carry `c`. -/
def ThenDaa (i : Instr) (s : State) (n : Nat) (c : Bool) : Prop :=
  ∃ t u, exec i s = .next t ∧ exec .daa t = .next u ∧ Packed u.regs.a ∧ decimal u.regs.a = n ∧ u.regs.f.c = c

/-- The number of the PPU mode (10_state.md R52). -/
def PpuMode.number : PpuMode → Nat
  | .hblank => 0 | .vblank => 1 | .oamScan => 2 | .transfer => 3

/-- `n` ticks of the PPU in sequence (60_exceptions.md R440). -/
def State.ticks (s : State) : Nat → State
  | 0     => s
  | n + 1 => (s.ticks n).ppuTick.1

/-- The offsets of the implemented registers of the I/O window (20_memory.md R84). -/
def ioOffsets : List Nat := [0x00, 0x04, 0x0F, 0x40, 0x41, 0x42, 0x43, 0x44, 0x45, 0x46, 0x47, 0x48, 0x49, 0x4A, 0x4B]

/-- The shade that the sprite of slot `k` puts at column `x` of line `ly`: none where it does not cover the pixel or its colour
index is 0 there (60_exceptions.md R454, R455). -/
def State.spriteShadeAt (s : State) (ly k x : Nat) : Option Shade :=
  let p := (x : Int) - s.spriteX k
  if s.spriteCovers ly k = true ∧ 0 ≤ p ∧ p < 8 ∧ s.spriteIndex ly k p.toNat ≠ 0#2 then
    some (shadeOf (s.spritePalette k) (s.spriteIndex ly k p.toNat))
  else none

end Machine

end Sys2Proof
end

