-- ==== Sys2Proof/Certificates/Slice0/Obligations.lean ====
section
/-! DEFINITION. The statements for the provers, from the numbered rules of spec/. The terms they use are those of Safety.lean. -/
open Sys2Proof Sys2Proof.Machine

/-! ### Encoding -/

/-- 30_encoding.md R130, R133, R142, Tables E1 and E2: decoding the encoding of an instruction gives it back, with every operand at
every value, whatever bytes follow. -/
def Obligations.DecodeEncode : Prop :=
  ∀ (i : Instr) (rest : List Byte), decode (encode i ++ rest) = .ok (i, rest)

/-- 30_encoding.md R142: every bit of every encoding is decoded, so the bytes that decode to an instruction are its encoding. The
second byte of STOP has no meaning, so STOP is left out. -/
def Obligations.EncodeDecode : Prop :=
  ∀ (bytes : List Byte) (i : Instr) (rest : List Byte), decode bytes = .ok (i, rest) → i ≠ .stop → bytes = encode i ++ rest

/-- 30_encoding.md R132: the first byte alone fixes the length, and enough bytes always decode. -/
def Obligations.LengthFromFirstByte : Prop :=
  ∀ (b0 : Byte) (tail : List Byte),
    (∀ i rest, decode (b0 :: tail) = .ok (i, rest) → (b0 :: tail).length = lengthOf b0 + rest.length) ∧
    (lengthOf b0 ≤ (b0 :: tail).length → ∃ i rest, decode (b0 :: tail) = .ok (i, rest))

/-- 30_encoding.md R140, R141: the eleven illegal opcodes, and they alone, decode to a term that is no defined instruction. -/
def Obligations.IllegalOpcodes : Prop :=
  ∀ (b0 : Byte) (tail : List Byte) (i : Instr) (rest : List Byte),
    decode (b0 :: tail) = .ok (i, rest) → (i.wellFormed = false ↔ b0 ∈ illegalOps)

/-- Words written out from the encodings of the rules R200, R230, R251, R262, R300, R310, R327, R340, R351, R362, R370. -/
def Obligations.SampleWords : Prop :=
  decode [0x78#8] = .ok (.ldAB, []) ∧ decode [0x21#8, 0x34#8, 0x12#8] = .ok (.ldHlD16 0x1234#16, []) ∧
  decode [0x80#8] = .ok (.addAB, []) ∧ decode [0xDE#8, 0x3A#8] = .ok (.sbcAD8 0x3A#8, []) ∧
  decode [0x09#8] = .ok (.addHlBc, []) ∧ decode [0x07#8] = .ok (.rlca, []) ∧
  decode [0xCB#8, 0x37#8] = .ok (.swapA, []) ∧ decode [0xCB#8, 0x7C#8] = .ok (.bit7H, []) ∧
  decode [0xC3#8, 0x50#8, 0x01#8] = .ok (.jpA16 0x0150#16, []) ∧ decode [0xFF#8] = .ok (.rst38, []) ∧
  decode [0x00#8] = .ok (.nop, []) ∧ decode [0xC3#8, 0x50#8] = .error (.truncated 0xC3#8)

/-! ### State -/

/-- 10_state.md R57, R58, R59, R60, R62: what reset leaves in every register, for every cartridge and parameter. -/
def Obligations.ResetRegisters : Prop :=
  ∀ (p : Params) (rom : Memory) (x : External), let s := State.resetWith p rom x
    s.regs.getStackPair .af = 0x01B0#16 ∧ s.regs.getPair .bc = 0x0013#16 ∧ s.regs.getPair .de = 0x00D8#16 ∧
    s.regs.hl = 0x014D#16 ∧ s.regs.sp = 0xFFFE#16 ∧ s.regs.pc = 0x0100#16 ∧
    s.ctl = { ime := false, imeDelay := 0, halted := false, fatal := none } ∧
    s.readByte 0xFF00#16 = 0xCF#8 ∧ s.readByte 0xFF0F#16 = 0xE1#8 ∧ s.readByte 0xFFFF#16 = 0x00#8 ∧
    s.readByte 0xFF40#16 = 0x91#8 ∧ s.readByte 0xFF41#16 = 0x86#8 ∧ s.readByte 0xFF42#16 = 0x00#8 ∧
    s.readByte 0xFF43#16 = 0x00#8 ∧ s.readByte 0xFF45#16 = 0x00#8 ∧ s.readByte 0xFF46#16 = 0xFF#8 ∧
    s.readByte 0xFF47#16 = 0xFC#8 ∧ s.readByte 0xFF48#16 = p.obp0Reset ∧ s.readByte 0xFF49#16 = p.obp1Reset ∧
    s.readByte 0xFF4A#16 = 0x00#8 ∧ s.readByte 0xFF4B#16 = 0x00#8 ∧
    Params.default.obp0Reset = 0xFF#8 ∧ Params.default.obp1Reset = 0xFF#8 ∧
    s.ppu.ly = 0 ∧ s.ppu.dot = 0 ∧ s.ppu.mode.number = 2 ∧ s.ppu.fb = List.replicate 144 (List.replicate 160 0#2) ∧
    s.buttons = ⟨false, false, false, false, false, false, false, false⟩

/-- The invariant of a run holds at reset (the start of `StepKeepsInvariant`). -/
def Obligations.ResetInvariant : Prop := State.reset.inv = true ∧ State.reset.fatalOk

/-- 10_state.md R31, R33, R34, 30_encoding.md R135 to R137: a pair is a view of its two registers, high byte first, AF takes only
bits 7 to 4 of a byte into F, whose flags stand there; and every register, pair and byte of a word goes by its own name. -/
def Obligations.PairsAreViews : Prop :=
  ∀ (g : Regs) (v : Word),
    (∀ p : Pair, (g.setPair p v).getPair p = v ∧ (g.setPair p v).f = g.f ∧ (g.setPair p v).pc = g.pc ∧
      (p ≠ .sp → (g.setPair p v).sp = g.sp) ∧ ∀ r, r ∉ p.halves → (g.setPair p v).get8 r = g.get8 r) ∧
    (∀ p : StackPair, (g.setStackPair p v).getStackPair p = (if p = .af then v &&& 0xFFF0#16 else v) ∧
      (p ≠ .af → (g.setStackPair p v).f = g.f) ∧ (g.setStackPair p v).sp = g.sp ∧ (g.setStackPair p v).pc = g.pc ∧
      ∀ r, r ∉ p.halves → (g.setStackPair p v).get8 r = g.get8 r) ∧
    (g.getPair .bc = cat g.b g.c ∧ g.getPair .de = cat g.d g.e ∧ g.getPair .hl = cat g.h g.l ∧ g.getPair .sp = g.sp) ∧
    (g.getStackPair .bc = cat g.b g.c ∧ g.getStackPair .de = cat g.d g.e ∧ g.getStackPair .hl = cat g.h g.l ∧
      g.getStackPair .af = cat g.a g.f.toByte) ∧
    g.f.toByte &&& 0x0F#8 = 0#8 ∧
    g.f.toByte.toNat = 128 * g.f.z.toNat + 64 * g.f.n.toNat + 32 * g.f.h.toNat + 16 * g.f.c.toNat ∧
    (∀ h l : Byte, (cat h l).toNat = 256 * h.toNat + l.toNat ∧ hi (cat h l) = h ∧ lo (cat h l) = l) ∧
    (g.get8 .b = g.b ∧ g.get8 .c = g.c ∧ g.get8 .d = g.d ∧ g.get8 .e = g.e ∧ g.get8 .h = g.h ∧ g.get8 .l = g.l ∧
      g.get8 .a = g.a) ∧
    ∀ s : State, s.hl = cat s.regs.h s.regs.l

/-! ### Memory -/

/-- 20_memory.md R71, R73, R75, R82: a write to ROM or to an unbacked range changes no state at all, and an unbacked range always
reads 0xFF. -/
def Obligations.DroppedWrites : Prop :=
  ∀ (s : State) (a : Word) (v : Byte),
    (a.toNat < 0x8000 → s.writeByte a v = s ∧ s.readByte a = s.mem.get a.toNat) ∧
    ((0xA000 ≤ a.toNat ∧ a.toNat < 0xC000) ∨ (0xE000 ≤ a.toNat ∧ a.toNat < 0xFE00) ∨ (0xFEA0 ≤ a.toNat ∧ a.toNat < 0xFF00) ∨
      (0xFF00 ≤ a.toNat ∧ a.toNat < 0xFF80 ∧ a.toNat - 0xFF00 ∉ ioOffsets) →
      s.writeByte a v = s ∧ s.readByte a = 0xFF#8)

/-- 20_memory.md R72, R74, R76, R77: in video RAM, working RAM, OAM and high RAM a read gives the byte last written there, and a
write changes the read of no other address; both reach the array itself, which the PPU reads directly (R72, R76, R85). -/
def Obligations.RamReadAfterWrite : Prop :=
  ∀ (s : State) (a : Word) (v : Byte), s.mem.wf = true →
    ((0x8000 ≤ a.toNat ∧ a.toNat < 0xA000) ∨ (0xC000 ≤ a.toNat ∧ a.toNat < 0xE000) ∨ (0xFE00 ≤ a.toNat ∧ a.toNat < 0xFEA0) ∨
      (0xFF80 ≤ a.toNat ∧ a.toNat < 0xFFFF)) →
    (s.writeByte a v).readByte a = v ∧ (∀ x, x ≠ a → (s.writeByte a v).readByte x = s.readByte x) ∧
      s.writeByte a v = { s with mem := (s.writeByte a v).mem } ∧ s.readByte a = s.mem.get a.toNat ∧
      (s.writeByte a v).mem.get a.toNat = v ∧ (∀ k, k ≠ a.toNat → (s.writeByte a v).mem.get k = s.mem.get k) ∧
      (s.writeByte a v).mem.wf = true

/-- 20_memory.md R78, R84: what a read of each register of the I/O window and of IE returns and what a write does. P1's read is
spelled out in `JoypadRead`, the DMA copy in `OamCopy`, and the draw of DIV in `DivDraws`. -/
def Obligations.IoRegisters : Prop :=
  ∀ (s : State) (v : Byte),
    (s.readByte 0xFF00#16 = p1Value s.io.sel s.buttons ∧ s.readByte 0xFF04#16 = s.nextDraw ∧
      s.readByte 0xFF0F#16 = 0xE0#8 ||| BitVec.setWidth 8 s.irq.flags ∧ s.readByte 0xFF40#16 = s.io.lcdc ∧
      s.readByte 0xFF41#16 = 0x80#8 ||| BitVec.setWidth 8 s.io.statSel <<< 3 |||
        (if s.ppu.ly = s.io.lyc.toNat then 0x04#8 else 0x00#8) ||| BitVec.ofNat 8 s.ppu.mode.number ∧
      s.readByte 0xFF42#16 = s.io.scy ∧ s.readByte 0xFF43#16 = s.io.scx ∧ s.readByte 0xFF44#16 = BitVec.ofNat 8 s.ppu.ly ∧
      s.readByte 0xFF45#16 = s.io.lyc ∧ s.readByte 0xFF46#16 = s.io.dma ∧ s.readByte 0xFF47#16 = s.io.bgp ∧
      s.readByte 0xFF48#16 = s.io.obp0 ∧ s.readByte 0xFF49#16 = s.io.obp1 ∧ s.readByte 0xFF4A#16 = s.io.wy ∧
      s.readByte 0xFF4B#16 = s.io.wx ∧ s.readByte 0xFFFF#16 = s.irq.ie) ∧
    (s.writeByte 0xFF00#16 v = { s with io := { s.io with sel := v.extractLsb' 4 2 } } ∧ s.writeByte 0xFF04#16 v = s ∧
      s.writeByte 0xFF0F#16 v = { s with irq := { s.irq with flags := v.extractLsb' 0 5 } } ∧
      s.writeByte 0xFF40#16 v = { s with io := { s.io with lcdc := v } } ∧
      s.writeByte 0xFF41#16 v = { s with io := { s.io with statSel := v.extractLsb' 3 4 } } ∧
      s.writeByte 0xFF42#16 v = { s with io := { s.io with scy := v } } ∧
      s.writeByte 0xFF43#16 v = { s with io := { s.io with scx := v } } ∧ s.writeByte 0xFF44#16 v = s ∧
      s.writeByte 0xFF45#16 v = { s with io := { s.io with lyc := v } } ∧
      s.writeByte 0xFF46#16 v = State.oamCopy { s with io := { s.io with dma := v } } v ∧
      s.writeByte 0xFF47#16 v = { s with io := { s.io with bgp := v } } ∧
      s.writeByte 0xFF48#16 v = { s with io := { s.io with obp0 := v } } ∧
      s.writeByte 0xFF49#16 v = { s with io := { s.io with obp1 := v } } ∧
      s.writeByte 0xFF4A#16 v = { s with io := { s.io with wy := v } } ∧
      s.writeByte 0xFF4B#16 v = { s with io := { s.io with wx := v } } ∧
      s.writeByte 0xFFFF#16 v = { s with irq := { s.irq with ie := v } }) ∧
    ∀ a : Word, 0xFF00 ≤ a.toNat → a.toNat < 0xFF80 → a.toNat - 0xFF00 ∉ ioOffsets →
      s.readByte a = 0xFF#8 ∧ s.writeByte a v = s

/-- 20_memory.md R90: a write to the DMA register copies 160 bytes into OAM through the dispatcher, and changes nothing else but the
latch and, where DIV is among the sources, the draw it consumes. -/
def Obligations.OamCopy : Prop :=
  ∀ (s : State) (v : Byte), s.mem.wf = true → let t := s.writeByte 0xFF46#16 v
    t.readByte 0xFF46#16 = v ∧
    (∀ i, i < 160 → t.readByte (BitVec.ofNat 16 (0xFE00 + i)) = copied s v i) ∧
    (∀ x : Word, ¬(0xFE00 ≤ x.toNat ∧ x.toNat < 0xFEA0) → x ≠ 0xFF46#16 → (v = 0xFF#8 → x ≠ divAddr) →
      t.readByte x = s.readByte x) ∧
    t.regs = s.regs ∧ t.ctl = s.ctl ∧ t.irq = s.irq ∧ t.ppu = s.ppu ∧ t.io = { s.io with dma := v } ∧ t.out = s.out ∧
    t.buttons = s.buttons ∧ t.params = s.params ∧ t.mem.wf = true ∧
    t.ext = (if v = 0xFF#8 then s.consumeDraw.ext else s.ext)

/-- 60_exceptions.md R466: the value read from P1. -/
def Obligations.JoypadRead : Prop :=
  ∀ s : State,
    let dir := s.buttons.right.toNat + 2 * s.buttons.left.toNat + 4 * s.buttons.up.toNat + 8 * s.buttons.down.toNat
    let act := s.buttons.a.toNat + 2 * s.buttons.b.toNat + 4 * s.buttons.select.toNat + 8 * s.buttons.start.toNat
    let g0 := if s.io.sel.getLsbD 0 then 0x0F else 0x0F &&& (0x0F ^^^ dir)
    let g1 := if s.io.sel.getLsbD 1 then g0 else g0 &&& (0x0F ^^^ act)
    (s.readByte 0xFF00#16).toNat = 0xC0 ||| s.io.sel.toNat <<< 4 ||| g1

/-- 60_exceptions.md R470, 20_memory.md R80, R87: a read of DIV consumes one draw of an input stream that can be substituted, a write
there is dropped, and no other read changes any state. The two-part stream (substituted bytes, then free ones) is the model's
(notes/assumptions/4.md). -/
def Obligations.DivDraws : Prop :=
  ∀ s : State,
    (∀ (v : Byte) (q : List Byte), s.ext.divInject = v :: q →
      s.readByte 0xFF04#16 = v ∧ s.afterRead 0xFF04#16 = { s with ext := { s.ext with divInject := q } }) ∧
    (s.ext.divInject = [] →
      s.readByte 0xFF04#16 = Config.divDraw s.ext.divPos ∧
      s.afterRead 0xFF04#16 = { s with ext := { s.ext with divPos := s.ext.divPos + 1 } }) ∧
    (∀ v, s.writeByte 0xFF04#16 v = s) ∧ (∀ a, a ≠ 0xFF04#16 → s.afterRead a = s) ∧
    divAddr = 0xFF04#16 ∧ s.consumeDraw = s.afterRead 0xFF04#16 ∧ s.nextDraw = s.readByte 0xFF04#16

/-- 20_memory.md R89: no step, and no reset, ever changes what a ROM address reads. -/
def Obligations.RomIsImmutable : Prop :=
  ∀ s t : State, step s = .next t → ∀ a : Word, a.toNat < 0x8000 → t.readByte a = s.readByte a

/-! ### 8-bit loads -/

/-- R200: `LD r,r'`. -/
def Obligations.LoadRegister : Prop :=
  ∀ (dst r : Reg8) (s : State), Spells [opXYZ 1 dst.code r.code] (Form.ld dst r) ∧
    ∃ t, exec (Form.ld dst r) s = .next t ∧
      t.regs.get8 dst = s.regs.get8 r ∧ RegsKept [dst] s t ∧ OnlyRegs s t ∧ Ends t (s.regs.pc + 1#16) 4

/-- R201: `LD r,(HL)`. -/
def Obligations.LoadFromHl : Prop :=
  ∀ (dst : Reg8) (s : State), Spells [opXYZ 1 dst.code 6] (Form.ldFromHl dst) ∧
    ∃ t, exec (Form.ldFromHl dst) s = .next t ∧
      t.regs.get8 dst = s.readByte s.hl ∧ RegsKept [dst] s t ∧ ReadEffect s t s.hl ∧ Ends t (s.regs.pc + 1#16) 8

/-- R202, R204: `LD (HL),r` and `LD (HL),d8`. -/
def Obligations.StoreToHl : Prop :=
  ∀ s : State, s.mem.wf = true →
    (∀ r : Reg8, Spells [opXYZ 1 6 r.code] (Form.ldToHl r) ∧
      ∃ t, exec (Form.ldToHl r) s = .next t ∧
        StoreEffect s t s.hl (s.regs.get8 r) ∧ RegsKept [] s t ∧ Ends t (s.regs.pc + 1#16) 8) ∧
    (∀ n : Byte, Spells [0x36#8, n] (.ldAtHlD8 n) ∧
      ∃ t, exec (.ldAtHlD8 n) s = .next t ∧ StoreEffect s t s.hl n ∧ RegsKept [] s t ∧ Ends t (s.regs.pc + 2#16) 12)

/-- R203: `LD r,d8`. -/
def Obligations.LoadImmediate : Prop :=
  ∀ (dst : Reg8) (n : Byte) (s : State), Spells [opXYZ 0 dst.code 6, n] (Form.ldImm dst n) ∧
    ∃ t, exec (Form.ldImm dst n) s = .next t ∧
      t.regs.get8 dst = n ∧ RegsKept [dst] s t ∧ OnlyRegs s t ∧ Ends t (s.regs.pc + 2#16) 8

/-- R205, R206, R213, R215, R217: the loads of A from memory, apart from those that move HL. -/
def Obligations.LoadAccumulator : Prop :=
  (Spells [0x0A#8] .ldAAtBc ∧ LoadsA .ldAAtBc (fun s => cat s.regs.b s.regs.c) 1 8) ∧
  (Spells [0x1A#8] .ldAAtDe ∧ LoadsA .ldAAtDe (fun s => cat s.regs.d s.regs.e) 1 8) ∧
  (∀ n : Word, Spells [0xFA#8, lo n, hi n] (.ldAAtA16 n) ∧ LoadsA (.ldAAtA16 n) (fun _ => n) 3 16) ∧
  (∀ n : Byte, Spells [0xF0#8, n] (.ldhAAtA8 n) ∧ LoadsA (.ldhAAtA8 n) (fun _ => 0xFF00#16 + BitVec.setWidth 16 n) 2 12) ∧
  (Spells [0xF2#8] .ldAAtC ∧ LoadsA .ldAAtC (fun s => 0xFF00#16 + BitVec.setWidth 16 s.regs.c) 1 8)

/-- R207, R208, R214, R216, R218: the stores of A, apart from those that move HL. -/
def Obligations.StoreAccumulator : Prop :=
  (Spells [0x02#8] .ldAtBcA ∧ StoresA .ldAtBcA (fun s => cat s.regs.b s.regs.c) 1 8) ∧
  (Spells [0x12#8] .ldAtDeA ∧ StoresA .ldAtDeA (fun s => cat s.regs.d s.regs.e) 1 8) ∧
  (∀ n : Word, Spells [0xEA#8, lo n, hi n] (.ldAtA16A n) ∧ StoresA (.ldAtA16A n) (fun _ => n) 3 16) ∧
  (∀ n : Byte, Spells [0xE0#8, n] (.ldhAtA8A n) ∧ StoresA (.ldhAtA8A n) (fun _ => 0xFF00#16 + BitVec.setWidth 16 n) 2 12) ∧
  (Spells [0xE2#8] .ldAtCA ∧ StoresA .ldAtCA (fun s => 0xFF00#16 + BitVec.setWidth 16 s.regs.c) 1 8)

/-- R209, R210, R211, R212: the loads and stores of A that step HL after the access. -/
def Obligations.AccumulatorSteppingHl : Prop :=
  ∀ s : State,
    (Spells [0x2A#8] .ldAAtHlInc ∧ ∃ t, exec .ldAAtHlInc s = .next t ∧ t.regs.a = s.readByte s.hl ∧ t.hl = s.hl + 1#16 ∧
      RegsKept [.a, .h, .l] s t ∧ ReadEffect s t s.hl ∧ Ends t (s.regs.pc + 1#16) 8) ∧
    (Spells [0x3A#8] .ldAAtHlDec ∧ ∃ t, exec .ldAAtHlDec s = .next t ∧ t.regs.a = s.readByte s.hl ∧ t.hl = s.hl - 1#16 ∧
      RegsKept [.a, .h, .l] s t ∧ ReadEffect s t s.hl ∧ Ends t (s.regs.pc + 1#16) 8) ∧
    (Spells [0x22#8] .ldAtHlIncA ∧ (s.mem.wf = true → ∃ t, exec .ldAtHlIncA s = .next t ∧ StoreEffect s t s.hl s.regs.a ∧
      t.hl = s.hl + 1#16 ∧ RegsKept [.h, .l] s t ∧ Ends t (s.regs.pc + 1#16) 8)) ∧
    (Spells [0x32#8] .ldAtHlDecA ∧ (s.mem.wf = true → ∃ t, exec .ldAtHlDecA s = .next t ∧ StoreEffect s t s.hl s.regs.a ∧
      t.hl = s.hl - 1#16 ∧ RegsKept [.h, .l] s t ∧ Ends t (s.regs.pc + 1#16) 8))

/-! ### 16-bit loads and the stack -/

/-- R230, R232: `LD rr,d16` and `LD SP,HL`. -/
def Obligations.LoadPair : Prop :=
  ∀ s : State,
    (∀ (p : Pair) (n : Word), Spells [opXP 0 p.code 1, lo n, hi n] (Form.ldPair p n) ∧
      ∃ t, exec (Form.ldPair p n) s = .next t ∧ t.regs.getPair p = n ∧ RegsKeptButSp p.halves s t ∧
        (p ≠ .sp → t.regs.sp = s.regs.sp) ∧ OnlyRegs s t ∧ Ends t (s.regs.pc + 3#16) 12) ∧
    (Spells [0xF9#8] .ldSpHl ∧ ∃ t, exec .ldSpHl s = .next t ∧ t.regs.sp = s.hl ∧ RegsKeptButSp [] s t ∧ OnlyRegs s t ∧
      Ends t (s.regs.pc + 1#16) 8)

/-- R231: `LD (a16),SP`. -/
def Obligations.StoreStackPointer : Prop :=
  ∀ (n : Word) (s : State), s.mem.wf = true → Spells [0x08#8, lo n, hi n] (.ldAtA16Sp n) ∧
    ∃ t, exec (.ldAtA16Sp n) s = .next t ∧ StoreEffect2 s t n (lo s.regs.sp) (n + 1#16) (hi s.regs.sp) ∧
      RegsKept [] s t ∧ Ends t (s.regs.pc + 3#16) 20

/-- R233, R303: `LD HL,SP+e8` and `ADD SP,e8`, with the flags of the unsigned addition of the low bytes. -/
def Obligations.StackPointerOffset : Prop :=
  ∀ (u : Byte) (s : State),
    let f : Flags := { z := false, n := false, h := decide (s.regs.sp.toNat % 16 + u.toNat % 16 > 0x0F),
                       c := decide (s.regs.sp.toNat % 256 + u.toNat > 0xFF) }
    (Spells [0xF8#8, u] (.ldHlSpE8 u) ∧ ∃ t, exec (.ldHlSpE8 u) s = .next t ∧
      (t.hl.toNat : Int) = (s.regs.sp.toNat + u.toInt) % 65536 ∧ t.regs.f = f ∧ RegsKeptButF [.h, .l] s t ∧ OnlyRegs s t ∧
      Ends t (s.regs.pc + 2#16) 12) ∧
    (Spells [0xE8#8, u] (.addSpE8 u) ∧ ∃ t, exec (.addSpE8 u) s = .next t ∧
      (t.regs.sp.toNat : Int) = (s.regs.sp.toNat + u.toInt) % 65536 ∧ t.regs.f = f ∧
      (∀ r, t.regs.get8 r = s.regs.get8 r) ∧ OnlyRegs s t ∧ Ends t (s.regs.pc + 2#16) 16)

/-- R234, R235: `PUSH rr`; the low byte of AF has bits 3 to 0 clear. -/
def Obligations.PushPair : Prop :=
  ∀ (p : StackPair) (s : State), s.mem.wf = true → Spells [opXP 3 p.code 5] (Form.push p) ∧
    (s.regs.getStackPair .af).extractLsb' 0 4 = 0#4 ∧
    ∃ t, exec (Form.push p) s = .next t ∧ PushEffect s t (s.regs.getStackPair p) ∧ Ends t (s.regs.pc + 1#16) 16

/-- R236, R237: `POP rr`; `POP AF` forces bits 3 to 0 of F to 0. -/
def Obligations.PopPair : Prop :=
  ∀ (p : StackPair) (s : State), Spells [opXP 3 p.code 1] (Form.pop p) ∧
    ∃ t, exec (Form.pop p) s = .next t ∧
      t.regs.getStackPair p = (if p = .af then popped s &&& 0xFFF0#16 else popped s) ∧ PopEffect s t ∧
      (∀ r, r ∉ p.halves → t.regs.get8 r = s.regs.get8 r) ∧ (p ≠ .af → t.regs.f = s.regs.f) ∧ Ends t (s.regs.pc + 1#16) 12

/-! ### 8-bit arithmetic and logic -/

/-- R250: the helper functions `add8` and `sub8`, in the integers. -/
def Obligations.AddSubHelpers : Prop :=
  ∀ (a v : Byte) (cin : Bool),
    ((add8 a v cin).value.toNat = (a.toNat + v.toNat + cin.toNat) % 256 ∧
      (add8 a v cin).flags.z = decide ((a.toNat + v.toNat + cin.toNat) % 256 = 0) ∧ (add8 a v cin).flags.n = false ∧
      (add8 a v cin).flags.h = decide (a.toNat % 16 + v.toNat % 16 + cin.toNat > 0x0F) ∧
      (add8 a v cin).flags.c = decide (a.toNat + v.toNat + cin.toNat > 0xFF)) ∧
    (((sub8 a v cin).value.toNat : Int) = ((a.toNat : Int) - v.toNat - cin.toNat) % 256 ∧
      (sub8 a v cin).flags.z = decide (((a.toNat : Int) - v.toNat - cin.toNat) % 256 = 0) ∧ (sub8 a v cin).flags.n = true ∧
      (sub8 a v cin).flags.h = decide (a.toNat % 16 < v.toNat % 16 + cin.toNat) ∧
      (sub8 a v cin).flags.c = decide (a.toNat < v.toNat + cin.toNat))

/-- R251 to R262: ADD, ADC, SUB and SBC in their three addressing modes. -/
def Obligations.AddAndSubtract : Prop :=
  AluForms .add (fun a v _ => add8 a v false) ∧ AluForms .adc (fun a v f => add8 a v f.c) ∧
  AluForms .sub (fun a v _ => sub8 a v false) ∧ AluForms .sbc (fun a v f => sub8 a v f.c)

/-- R263 to R274: AND, XOR, OR and CP in their three addressing modes. -/
def Obligations.LogicAndCompare : Prop :=
  AluForms .and (fun a v _ => ⟨a &&& v, { z := decide (a &&& v = 0#8), n := false, h := true, c := false }⟩) ∧
  AluForms .xor (fun a v _ => ⟨a ^^^ v, { z := decide (a ^^^ v = 0#8), n := false, h := false, c := false }⟩) ∧
  AluForms .or (fun a v _ => ⟨a ||| v, { z := decide (a ||| v = 0#8), n := false, h := false, c := false }⟩) ∧
  AluForms .cp (fun a v _ => ⟨a, (sub8 a v false).flags⟩)

/-- R275, R276, R277, R278: INC and DEC of a register and of the byte at HL. C is kept. -/
def Obligations.IncrementDecrement : Prop :=
  ∀ s : State,
    (∀ r : Reg8, let v := s.regs.get8 r
      (Spells [opXYZ 0 r.code 4] (Form.inc r) ∧ ∃ t, exec (Form.inc r) s = .next t ∧
        (t.regs.get8 r).toNat = (v.toNat + 1) % 256 ∧
        t.regs.f = { z := decide ((v.toNat + 1) % 256 = 0), n := false, h := decide (v.toNat % 16 = 0x0F), c := s.regs.f.c } ∧
        RegsKeptButF [r] s t ∧ OnlyRegs s t ∧ Ends t (s.regs.pc + 1#16) 4) ∧
      (Spells [opXYZ 0 r.code 5] (Form.dec r) ∧ ∃ t, exec (Form.dec r) s = .next t ∧
        (t.regs.get8 r).toNat = (v.toNat + 255) % 256 ∧
        t.regs.f = { z := decide ((v.toNat + 255) % 256 = 0), n := true, h := decide (v.toNat % 16 = 0x00), c := s.regs.f.c } ∧
        RegsKeptButF [r] s t ∧ OnlyRegs s t ∧ Ends t (s.regs.pc + 1#16) 4)) ∧
    (s.mem.wf = true → let v := s.readByte s.hl
      (Spells [0x34#8] .incAtHl ∧ ∃ t, exec .incAtHl s = .next t ∧ ModifyEffect s t (BitVec.ofNat 8 (v.toNat + 1)) ∧
        t.regs.f = { z := decide ((v.toNat + 1) % 256 = 0), n := false, h := decide (v.toNat % 16 = 0x0F), c := s.regs.f.c } ∧
        RegsKeptButF [] s t ∧ Ends t (s.regs.pc + 1#16) 12) ∧
      (Spells [0x35#8] .decAtHl ∧ ∃ t, exec .decAtHl s = .next t ∧ ModifyEffect s t (BitVec.ofNat 8 (v.toNat + 255)) ∧
        t.regs.f = { z := decide ((v.toNat + 255) % 256 = 0), n := true, h := decide (v.toNat % 16 = 0x00), c := s.regs.f.c } ∧
        RegsKeptButF [] s t ∧ Ends t (s.regs.pc + 1#16) 12))

/-- R279: DAA, for every A, N, H and C. -/
def Obligations.DecimalAdjust : Prop :=
  ∀ s : State, let r := daaSpec s.regs.a.toNat s.regs.f.n s.regs.f.h s.regs.f.c
    Spells [0x27#8] .daa ∧ ∃ t, exec .daa s = .next t ∧
      t.regs.a.toNat = r.1 ∧ t.regs.f = { z := decide (r.1 = 0), n := s.regs.f.n, h := false, c := r.2 } ∧
      RegsKeptButF [.a] s t ∧ OnlyRegs s t ∧ Ends t (s.regs.pc + 1#16) 4

/-- R279 with R251, R254, R257, R260: ADD, ADC, SUB or SBC of packed decimal numbers and then DAA give their decimal sum or
difference modulo 100, with C the decimal carry or borrow. -/
def Obligations.DecimalArithmetic : Prop :=
  ∀ (r : Reg8) (s : State), Packed s.regs.a → Packed (s.regs.get8 r) →
    let x := decimal s.regs.a
    let y := decimal (s.regs.get8 r)
    let k := s.regs.f.c.toNat
    ThenDaa (Form.alu .add r) s ((x + y) % 100) (decide (x + y ≥ 100)) ∧
    ThenDaa (Form.alu .adc r) s ((x + y + k) % 100) (decide (x + y + k ≥ 100)) ∧
    ThenDaa (Form.alu .sub r) s ((x + 100 - y) % 100) (decide (x < y)) ∧
    ThenDaa (Form.alu .sbc r) s ((x + 100 - y - k) % 100) (decide (x < y + k))

/-- R280, R281, R282: CPL, SCF and CCF. -/
def Obligations.FlagOperations : Prop :=
  ∀ s : State,
    (Spells [0x2F#8] .cpl ∧ ∃ t, exec .cpl s = .next t ∧ t.regs.a = s.regs.a ^^^ 0xFF#8 ∧
      t.regs.f = { s.regs.f with n := true, h := true } ∧ RegsKeptButF [.a] s t ∧ OnlyRegs s t ∧ Ends t (s.regs.pc + 1#16) 4) ∧
    (Spells [0x37#8] .scf ∧ ∃ t, exec .scf s = .next t ∧ t.regs.f = { s.regs.f with n := false, h := false, c := true } ∧
      RegsKeptButF [] s t ∧ OnlyRegs s t ∧ Ends t (s.regs.pc + 1#16) 4) ∧
    (Spells [0x3F#8] .ccf ∧ ∃ t, exec .ccf s = .next t ∧ t.regs.f = { s.regs.f with n := false, h := false, c := !s.regs.f.c } ∧
      RegsKeptButF [] s t ∧ OnlyRegs s t ∧ Ends t (s.regs.pc + 1#16) 4)

/-! ### 16-bit arithmetic -/

/-- R300, R301, R302: `ADD HL,rr`, `INC rr` and `DEC rr`. -/
def Obligations.PairArithmetic : Prop :=
  ∀ (p : Pair) (s : State), let h := s.hl
    let v := s.regs.getPair p
    (Spells [opXP 0 p.code 9] (Form.addHl p) ∧ ∃ t, exec (Form.addHl p) s = .next t ∧
      t.hl.toNat = (h.toNat + v.toNat) % 65536 ∧
      t.regs.f = { z := s.regs.f.z, n := false, h := decide (h.toNat % 4096 + v.toNat % 4096 > 0x0FFF),
                   c := decide (h.toNat + v.toNat > 0xFFFF) } ∧
      RegsKeptButF [.h, .l] s t ∧ OnlyRegs s t ∧ Ends t (s.regs.pc + 1#16) 8) ∧
    (Spells [opXP 0 p.code 3] (Form.incPair p) ∧ ∃ t, exec (Form.incPair p) s = .next t ∧
      (t.regs.getPair p).toNat = (v.toNat + 1) % 65536 ∧ RegsKeptButSp p.halves s t ∧ (p ≠ .sp → t.regs.sp = s.regs.sp) ∧
      OnlyRegs s t ∧ Ends t (s.regs.pc + 1#16) 8) ∧
    (Spells [opXP 0 p.code 11] (Form.decPair p) ∧ ∃ t, exec (Form.decPair p) s = .next t ∧
      (t.regs.getPair p).toNat = (v.toNat + 65535) % 65536 ∧ RegsKeptButSp p.halves s t ∧ (p ≠ .sp → t.regs.sp = s.regs.sp) ∧
      OnlyRegs s t ∧ Ends t (s.regs.pc + 1#16) 8)

/-! ### Rotates, shifts and bits -/

/-- R310, R311, R312, R313: the accumulator rotates clear Z whatever the result. -/
def Obligations.AccumulatorRotates : Prop :=
  ∀ s : State, ∀ x ∈ [(RotOp.rlc, 0x07#8, Instr.rlca), (.rrc, 0x0F#8, .rrca), (.rl, 0x17#8, .rla), (.rr, 0x1F#8, .rra)],
    let r := shiftSpec x.1 s.regs.a.toNat s.regs.f.c.toNat
    Spells [x.2.1] x.2.2 ∧ ∃ t, exec x.2.2 s = .next t ∧
      t.regs.a.toNat = r.1 ∧ t.regs.f = { z := false, n := false, h := false, c := decide (r.2 = 1) } ∧
      RegsKeptButF [.a] s t ∧ OnlyRegs s t ∧ Ends t (s.regs.pc + 1#16) 4

/-- R314, R315, R317, R319, R321, R323, R325, R327, R329: the eight shifts of a register. -/
def Obligations.ShiftRegister : Prop :=
  ∀ (op : RotOp) (r : Reg8) (s : State), let u := shiftSpec op (s.regs.get8 r).toNat s.regs.f.c.toNat
    Spells [0xCB#8, opXYZ 0 op.code r.code] (Form.rot op (.reg r)) ∧ ∃ t, exec (Form.rot op (.reg r)) s = .next t ∧
      (t.regs.get8 r).toNat = u.1 ∧ t.regs.f = { z := decide (u.1 = 0), n := false, h := false, c := decide (u.2 = 1) } ∧
      RegsKeptButF [r] s t ∧ OnlyRegs s t ∧ Ends t (s.regs.pc + 2#16) 8

/-- R316, R318, R320, R322, R324, R326, R328, R330: the eight shifts of the byte at HL, read and then written. -/
def Obligations.ShiftAtHl : Prop :=
  ∀ (op : RotOp) (s : State), s.mem.wf = true → let u := shiftSpec op (s.readByte s.hl).toNat s.regs.f.c.toNat
    Spells [0xCB#8, opXYZ 0 op.code 6] (Form.rot op .atHl) ∧ ∃ t, exec (Form.rot op .atHl) s = .next t ∧
      ModifyEffect s t (BitVec.ofNat 8 u.1) ∧ t.regs.f = { z := decide (u.1 = 0), n := false, h := false, c := decide (u.2 = 1) } ∧
      RegsKeptButF [] s t ∧ Ends t (s.regs.pc + 2#16) 16

/-- R340, R341: `BIT b,r` and `BIT b,(HL)`, which write no operand and keep C. -/
def Obligations.BitTest : Prop :=
  ∀ (b : BitVec 3) (s : State),
    (∀ r : Reg8, Spells [0xCB#8, opXYZ 1 b r.code] (Form.bit b (.reg r)) ∧ ∃ t, exec (Form.bit b (.reg r)) s = .next t ∧
      t.regs.f = { z := decide ((s.regs.get8 r).getLsbD b.toNat = false), n := false, h := true, c := s.regs.f.c } ∧
      RegsKeptButF [] s t ∧ OnlyRegs s t ∧ Ends t (s.regs.pc + 2#16) 8) ∧
    (Spells [0xCB#8, opXYZ 1 b 6] (Form.bit b .atHl) ∧ ∃ t, exec (Form.bit b .atHl) s = .next t ∧
      t.regs.f = { z := decide ((s.readByte s.hl).getLsbD b.toNat = false), n := false, h := true, c := s.regs.f.c } ∧
      RegsKeptButF [] s t ∧ ReadEffect s t s.hl ∧ Ends t (s.regs.pc + 2#16) 12)

/-- R342, R343, R344, R345: RES and SET, which write no flag. -/
def Obligations.BitResetAndSet : Prop :=
  ∀ (b : BitVec 3) (s : State),
    (∀ r : Reg8,
      (Spells [0xCB#8, opXYZ 2 b r.code] (Form.res b (.reg r)) ∧ ∃ t, exec (Form.res b (.reg r)) s = .next t ∧
        (t.regs.get8 r).toNat = (s.regs.get8 r).toNat &&& (0xFF ^^^ 2 ^ b.toNat) ∧ RegsKept [r] s t ∧ OnlyRegs s t ∧
        Ends t (s.regs.pc + 2#16) 8) ∧
      (Spells [0xCB#8, opXYZ 3 b r.code] (Form.set b (.reg r)) ∧ ∃ t, exec (Form.set b (.reg r)) s = .next t ∧
        (t.regs.get8 r).toNat = (s.regs.get8 r).toNat ||| 2 ^ b.toNat ∧ RegsKept [r] s t ∧ OnlyRegs s t ∧
        Ends t (s.regs.pc + 2#16) 8)) ∧
    (s.mem.wf = true →
      (Spells [0xCB#8, opXYZ 2 b 6] (Form.res b .atHl) ∧ ∃ t, exec (Form.res b .atHl) s = .next t ∧
        ModifyEffect s t (BitVec.ofNat 8 ((s.readByte s.hl).toNat &&& (0xFF ^^^ 2 ^ b.toNat))) ∧ RegsKept [] s t ∧
        Ends t (s.regs.pc + 2#16) 16) ∧
      (Spells [0xCB#8, opXYZ 3 b 6] (Form.set b .atHl) ∧ ∃ t, exec (Form.set b .atHl) s = .next t ∧
        ModifyEffect s t (BitVec.ofNat 8 ((s.readByte s.hl).toNat ||| 2 ^ b.toNat)) ∧ RegsKept [] s t ∧
        Ends t (s.regs.pc + 2#16) 16))

/-! ### Control transfers -/

/-- R351, R352, R353, R354, R355: the jumps. -/
def Obligations.Jumps : Prop :=
  ∀ s : State,
    (∀ n : Word, Spells [0xC3#8, lo n, hi n] (.jpA16 n) ∧ ∃ t, exec (.jpA16 n) s = .next t ∧
      RegsKept [] s t ∧ OnlyRegs s t ∧ Ends t n 16) ∧
    (∀ (cc : Cond) (n : Word), Spells [opXYZ 3 (0#1 ++ cc.code) 2, lo n, hi n] (Form.jpCond cc n) ∧
      ∃ t, exec (Form.jpCond cc n) s = .next t ∧ RegsKept [] s t ∧ OnlyRegs s t ∧
        if cc.test s.regs.f.z s.regs.f.c then Ends t n 16 else Ends t (s.regs.pc + 3#16) 12) ∧
    (Spells [0xE9#8] .jpHl ∧ ∃ t, exec .jpHl s = .next t ∧ RegsKept [] s t ∧ OnlyRegs s t ∧ Ends t s.hl 4) ∧
    (∀ e : Byte, Spells [0x18#8, e] (.jrE8 e) ∧ ∃ t, exec (.jrE8 e) s = .next t ∧ RegsKept [] s t ∧ OnlyRegs s t ∧
      Ends t (s.regs.pc + 2#16 + e.signExtend 16) 12) ∧
    (∀ (cc : Cond) (e : Byte), Spells [opXYZ 0 (1#1 ++ cc.code) 0, e] (Form.jrCond cc e) ∧
      ∃ t, exec (Form.jrCond cc e) s = .next t ∧ RegsKept [] s t ∧ OnlyRegs s t ∧
        if cc.test s.regs.f.z s.regs.f.c then Ends t (s.regs.pc + 2#16 + e.signExtend 16) 12 else Ends t (s.regs.pc + 2#16) 8)

/-- R356, R357, R362: CALL, CALL cc and RST. -/
def Obligations.Calls : Prop :=
  ∀ s : State, s.mem.wf = true →
    (∀ n : Word, Spells [0xCD#8, lo n, hi n] (.callA16 n) ∧ ∃ t, exec (.callA16 n) s = .next t ∧
      PushEffect s t (s.regs.pc + 3#16) ∧ Ends t n 24) ∧
    (∀ (cc : Cond) (n : Word), Spells [opXYZ 3 (0#1 ++ cc.code) 4, lo n, hi n] (Form.callCond cc n) ∧
      ∃ t, exec (Form.callCond cc n) s = .next t ∧
        if cc.test s.regs.f.z s.regs.f.c then PushEffect s t (s.regs.pc + 3#16) ∧ Ends t n 24
        else RegsKept [] s t ∧ OnlyRegs s t ∧ Ends t (s.regs.pc + 3#16) 12) ∧
    (∀ y : BitVec 3, Spells [opXYZ 3 y 7] (Form.rst y) ∧ ∃ t, exec (Form.rst y) s = .next t ∧
      PushEffect s t (s.regs.pc + 1#16) ∧ Ends t (BitVec.ofNat 16 (8 * y.toNat)) 16)

/-- R358, R359, R361: RET, RET cc and RETI, which enables interrupts at once. -/
def Obligations.Returns : Prop :=
  ∀ s : State,
    (Spells [0xC9#8] .ret ∧ ∃ t, exec .ret s = .next t ∧ PopEffect s t ∧ RegsKeptButSp [] s t ∧ Ends t (popped s) 16) ∧
    (∀ cc : Cond, Spells [opXYZ 3 (0#1 ++ cc.code) 0] (Form.retCond cc) ∧ ∃ t, exec (Form.retCond cc) s = .next t ∧
      if cc.test s.regs.f.z s.regs.f.c then PopEffect s t ∧ RegsKeptButSp [] s t ∧ Ends t (popped s) 20
      else RegsKept [] s t ∧ OnlyRegs s t ∧ Ends t (s.regs.pc + 1#16) 8) ∧
    (Spells [0xD9#8] .reti ∧ ∃ t, exec .reti s = .next t ∧ PopEffect s { t with ctl := s.ctl } ∧ RegsKeptButSp [] s t ∧
      t.ctl = { s.ctl with ime := true, imeDelay := 0 } ∧ Ends t (popped s) 16)

/-! ### Processor control -/

/-- R370, R372, R374, R375: NOP, HALT, DI and EI. -/
def Obligations.ProcessorControl : Prop :=
  ∀ s : State,
    (Spells [0x00#8] .nop ∧ ∃ t, exec .nop s = .next t ∧ RegsKept [] s t ∧ OnlyRegs s t ∧ Ends t (s.regs.pc + 1#16) 4) ∧
    (Spells [0x76#8] .halt ∧ ∃ t, exec .halt s = .next t ∧ RegsKept [] s t ∧ OnlyRegs s { t with ctl := s.ctl } ∧
      t.ctl = (if s.irq.ie &&& BitVec.setWidth 8 s.irq.flags &&& 0x1F#8 = 0#8 then { s.ctl with halted := true } else s.ctl) ∧
      Ends t (s.regs.pc + 1#16) 4) ∧
    (Spells [0xF3#8] .di ∧ ∃ t, exec .di s = .next t ∧ RegsKept [] s t ∧ OnlyRegs s { t with ctl := s.ctl } ∧
      t.ctl = { s.ctl with ime := false, imeDelay := 0 } ∧ Ends t (s.regs.pc + 1#16) 4) ∧
    (Spells [0xFB#8] .ei ∧ ∃ t, exec .ei s = .next t ∧ RegsKept [] s t ∧ OnlyRegs s { t with ctl := s.ctl } ∧
      (s.params.eiDelay = .zero → t.ctl = { s.ctl with ime := true }) ∧
      (s.params.eiDelay = .one →
        t.ctl = (if s.ctl.ime = false ∧ s.ctl.imeDelay = 0 then { s.ctl with imeDelay := 2 } else s.ctl)) ∧
      Ends t (s.regs.pc + 1#16) 4) ∧
    Params.default.eiDelay = .one

/-- 47_cpu_control.md R371, R377: executing STOP or an illegal opcode sets the fatal record with PC still at the opcode, and changes
nothing else. -/
def Obligations.FatalInstructions : Prop :=
  ∀ s : State, ∀ x ∈ [(0x10#8, Instr.stop), (0xD3#8, .illegalD3), (0xDB#8, .illegalDB), (0xDD#8, .illegalDD), (0xE3#8, .illegalE3),
      (0xE4#8, .illegalE4), (0xEB#8, .illegalEB), (0xEC#8, .illegalEC), (0xED#8, .illegalED), (0xF4#8, .illegalF4),
      (0xFC#8, .illegalFC), (0xFD#8, .illegalFD)],
    (∀ n rest, decode (x.1 :: n :: rest) = .ok (x.2, if x.2 = .stop then rest else n :: rest)) ∧
    ∃ t, exec x.2 s = .next t ∧ t.ctl = { s.ctl with fatal := some { op := cat 0#8 x.1, pc := s.regs.pc } } ∧
      OnlyRegs s { t with ctl := s.ctl } ∧ t.regs = s.regs ∧ t.out = none

/-! ### The step -/

/-- 60_exceptions.md R400, 30_encoding.md R131: a step that fetches runs the decoded instruction. The bytes are read in order at PC,
as many as the first byte fixes; `fetchBytes` gives them and the state after the reads, which differs from the state before only by
a draw where a byte is read from DIV; the instruction is executed there, and the end of the instruction, the PPU advance (`retire`)
and the host's turn at a completed frame (`frameYield`) follow. STOP's second byte is not read. That the host's turn (R480, R481)
belongs to the same step is the model's choice (notes/assumptions/7.md). -/
def Obligations.StepRunsDecoded : Prop :=
  ∀ s : State, s.fetches = true →
    let f := fetchBytes s.regs.pc (lengthOf (s.readByte s.regs.pc)) s.wake
    (∀ i, decode f.1 = .ok (i, []) → s.params.leftOut.contains (opcodeOf f.1) = false → i ≠ .stop →
      ∃ t, exec i f.2 = .next t ∧ step s = .next t.retire.frameYield) ∧
    (s.readByte s.regs.pc = 0x10#8 → s.params.leftOut.contains 0x0010#16 = false →
      ∃ t, exec .stop (s.wake.afterRead s.regs.pc) = .next t ∧ step s = .next t.retire.frameYield) ∧
    ((∀ k, k < lengthOf (s.readByte s.regs.pc) → s.regs.pc + BitVec.ofNat 16 k ≠ divAddr) → f.2 = s.wake)

/-- 60_exceptions.md R410, R411: a dispatch is pending exactly when IME, IE bit 0 and IF bit 0 are 1, and a step that finds one takes
it: PC is pushed, IME, the EI delay and IF bit 0 are cleared, PC becomes 0x0040, 20 cycles pass, and no instruction runs. That the
host's turn at a completed frame (R480, R481) belongs to the same step is the model's choice (notes/assumptions/7.md). -/
def Obligations.InterruptDispatch : Prop :=
  ∀ s : State,
    (s.dispatchPending = true ↔ s.ctl.ime = true ∧ s.irq.ie.getLsbD 0 = true ∧ s.irq.flags.getLsbD 0 = true) ∧
    (s.mem.wf = true → s.live = true → s.waits = false → s.dispatchPending = true →
      ∃ m t : State, PushEffect s.wake m s.regs.pc ∧ t.regs = { m.regs with pc := 0x0040#16 } ∧
        t.ctl = { s.ctl with halted := false, ime := false, imeDelay := 0 } ∧
        t.irq = { m.irq with flags := m.irq.flags &&& 0b11110#5 } ∧ t.io = m.io ∧ t.ppu = m.ppu ∧ t.mem = m.mem ∧
        t.buttons = m.buttons ∧ t.params = m.params ∧ t.ext = m.ext ∧ step s = .next (t.completeStep 20).frameYield)

/-- 60_exceptions.md R401, R400: a halted machine with no enabled request waits for 4 cycles; with one it wakes and the same step goes
on; a machine that is not halted does neither. That the host's turn at a completed frame (R480, R481) belongs to the same step is the
model's choice (notes/assumptions/7.md). -/
def Obligations.HaltedWait : Prop :=
  ∀ s : State,
    (s.ctl.halted = false → s.waits = false ∧ s.wake = s) ∧
    (s.ctl.halted = true → s.irq.ie &&& BitVec.setWidth 8 s.irq.flags &&& 0x1F#8 = 0#8 → s.waits = true ∧
      (s.live = true → step s = .next (s.completeStep 4).frameYield ∧ (s.completeStep 4).regs = s.regs ∧
        (s.completeStep 4).ctl = s.ctl ∧ (s.completeStep 4).mem = s.mem ∧
        (s.completeStep 4).out.map StepOut.cycles = some 4)) ∧
    (s.ctl.halted = true → s.irq.ie &&& BitVec.setWidth 8 s.irq.flags &&& 0x1F#8 ≠ 0#8 → s.waits = false ∧
      s.wake = { s with ctl := { s.ctl with halted := false } } ∧
      (s.live = true → step s = step { s with ctl := { s.ctl with halted := false } }))

/-- 60_exceptions.md R420, with R400, R401 and 30_encoding.md R131: fetching an opcode that is not in IMPLEMENTED sets the fatal record
and changes nothing else after the wake and the fetch; the step returns no cycle count, and no byte after the opcode is read. That a
draw which the fetch made at DIV stays consumed is read from the spec by inference (notes/assumptions/13.md). -/
def Obligations.UnimplementedOpcode : Prop :=
  ∀ s : State, s.fetches = true →
    let pc0 := s.regs.pc
    let s1 := s.wake.afterRead pc0
    let b0 := s.readByte pc0
    let op := if b0 = 0xCB#8 then cat 0xCB#8 (s1.readByte (pc0 + 1#16)) else cat 0x00#8 b0
    implemented s.params op = false →
      ∃ t, step s = .next t ∧ t.ctl = { s.ctl with halted := false, fatal := some { op := op, pc := pc0 } } ∧
        OnlyRegs (if b0 = 0xCB#8 then s1.afterRead (pc0 + 1#16) else s1) { t with ctl := { s.ctl with halted := false } } ∧
        t.regs = s.regs ∧ t.out = none

/-- 60_exceptions.md R403, R482: after a fatal stop no step has a next state unless the host resets the machine; the model's step then
answers the fault `fatalStop` with the record (the model's way to say that every step returns none: notes/assumptions/7.md). -/
def Obligations.FatalIsPermanent : Prop :=
  ∀ (s : State) (r : FatalRecord), s.ctl.fatal = some r → s.ext.stopped = false →
    (∀ q, s.ext.yields = .reset :: q → step s = .next (s.withYields q).hostReset) ∧
    ((∀ q, s.ext.yields ≠ .reset :: q) → step s = .fault (.fatalStop r.op r.pc))

/-- 60_exceptions.md R420, R421, over every step: a fatal record names an opcode outside IMPLEMENTED and the address where PC still
stands. -/
def Obligations.FatalRecordIsTrue : Prop := ∀ s t : State, s.fatalOk → step s = .next t → t.fatalOk

/-- 60_exceptions.md R402, R400, R440: what the end of an executed instruction does with the EI delay, before the PPU advances by the
instruction's cycles, and that nothing else changes; the advance is that many ticks in sequence, and it reports a completed frame
where one of them entered vertical blank. A dispatch and a halted step end by `completeStep` alone. A fatal stop ends without either:
that it shows by `out = none` is the model's choice (notes/assumptions/16.md). -/
def Obligations.EndOfInstruction : Prop :=
  ∀ s : State,
    (s.out = none → s.retire = s) ∧
    (∀ n, let t := s.completeStep n
      (advancePpu n s).1 = s.ticks n ∧ ((advancePpu n s).2 = true ↔ ∃ k, k < n ∧ (s.ticks k).ppuTick.2 = true) ∧
      t = { s.ticks n with out := some { cycles := n, frameComplete := (advancePpu n s).2 } } ∧
      t.regs = s.regs ∧ t.ctl = s.ctl ∧ t.io = s.io ∧ t.mem = s.mem ∧ t.buttons = s.buttons ∧ t.params = s.params ∧
      t.irq = { s.irq with flags := if (advancePpu n s).2 then s.irq.flags ||| 0b00001#5 else s.irq.flags } ∧ t.ext = s.ext) ∧
    ∀ o, s.out = some o →
      let c : Control := if s.ctl.imeDelay > 0 then
          { s.ctl with imeDelay := s.ctl.imeDelay - 1, ime := if s.ctl.imeDelay = 1 then true else s.ctl.ime }
        else s.ctl
      let r := advancePpu o.cycles { s with ctl := c }
      let t := s.retire
      t = State.completeStep { s with ctl := c } o.cycles ∧ t.ctl = c ∧ t.ppu = r.1.ppu ∧ t.regs = s.regs ∧ t.mem = s.mem ∧
      t.io = s.io ∧ t.buttons = s.buttons ∧ t.params = s.params ∧ t.ext = s.ext ∧
      t.irq = { s.irq with flags := if r.2 then s.irq.flags ||| 0b00001#5 else s.irq.flags } ∧
      t.out = some { cycles := o.cycles, frameComplete := r.2 }

/-- Every step keeps the invariant of a run: memory in canonical form, the PPU's counters in range and its mode the one they give
(10_state.md R52, 60_exceptions.md R443), the EI delay consistent with IME (10_state.md R39), the parameters legal. -/
def Obligations.StepKeepsInvariant : Prop := ∀ s t : State, s.inv = true → step s = .next t → t.inv = true

/-! ### The PPU -/

/-- 60_exceptions.md R443, R445 (with R405 and R444): one tick of the scanline state machine, and that nothing else changes. MODE3_LEN
is the constant or, where it depends on the state, a value in 1..375 (R441), and the tick does not look at the outside world, so that
equal machines tick equally (R485). That MODE3_LEN is fixed for a line when its mode 3 begins, in the field `mode3Len`, is the model's
choice (notes/assumptions/5.md). -/
def Obligations.PpuTick : Prop :=
  ∀ s : State, s.params.wf = true → s.ppu.wf = true →
    let m := State.mode3Length { s with ppu := { s.ppu with dot := s.ppu.dot + 1 } }
    let t := s.ppuTick.1
    (t.ppu.ly, t.ppu.dot) = (if s.ppu.dot + 1 = 456 then ((s.ppu.ly + 1) % 154, 0) else (s.ppu.ly, s.ppu.dot + 1)) ∧
    t.ppu.mode.number = (if 144 ≤ t.ppu.ly then 1 else if t.ppu.dot < 80 then 2 else if t.ppu.dot < 80 + t.ppu.mode3Len then 3 else 0) ∧
    t.ppu.mode3Len = (if s.ppu.ly < 144 ∧ s.ppu.dot + 1 = 80 then m else s.ppu.mode3Len) ∧
    t.ppu.fb = (if s.ppu.ly < 144 ∧ s.ppu.dot + 1 ≠ 80 ∧ s.ppu.dot + 1 = 80 + s.ppu.mode3Len then
      s.ppu.fb.set s.ppu.ly (s.lineShades s.ppu.ly) else s.ppu.fb) ∧
    s.ppuTick.2 = decide (s.ppu.ly = 143 ∧ s.ppu.dot = 455) ∧
    t.irq = { s.irq with flags := if s.ppu.ly = 143 ∧ s.ppu.dot = 455 then s.irq.flags ||| 0b00001#5 else s.irq.flags } ∧
    t.regs = s.regs ∧ t.ctl = s.ctl ∧ t.io = s.io ∧ t.mem = s.mem ∧ t.buttons = s.buttons ∧ t.params = s.params ∧ t.out = s.out ∧
    t.ext = s.ext ∧ (∀ n, s.params.mode3 = .constant n → m = n) ∧ (s.params.mode3 = .dependent → 1 ≤ m ∧ m ≤ 375) ∧
    ∀ (x : External) (o : Option StepOut),
      State.ppuTick { s with ext := x, out := o } = ({ t with ext := x, out := o }, s.ppuTick.2)

/-- 60_exceptions.md R446: every step moves the PPU by exactly the cycles it returns around a frame of 70224 cycles, whatever is
drawn, and it reports a completed frame exactly when the place 65664 is passed. -/
def Obligations.FrameClock : Prop :=
  ∀ (s t : State) (o : StepOut), s.ppu.ly < 154 → s.ppu.dot < 456 → s.live = true → step s = .next t → t.out = some o →
    t.ppu.ly < 154 ∧ t.ppu.dot < 456 ∧ t.ppu.position = (s.ppu.position + o.cycles) % 70224 ∧
      (o.frameComplete = true ↔ ∃ k, 1 ≤ k ∧ k ≤ o.cycles ∧ (s.ppu.position + k) % 70224 = 65664)

/-- 60_exceptions.md R447, R450, R451, R452, R453, R458: the background's shade at a pixel, with or without sprites over it
(`SpriteCompositing`), and the pixel of a line with no sprites drawn or with the LCD off. -/
def Obligations.BackgroundPixel : Prop :=
  ∀ (s : State) (ly x : Nat), x < 160 →
    let L := s.io.lcdc
    let map := if L.getLsbD 3 then 0x9C00 else 0x9800
    let row := (ly + s.io.scy.toNat) % 256
    let col := (x + s.io.scx.toNat) % 256
    let tile := s.mem.get (map + row / 8 * 32 + col / 8)
    let addr := if L.getLsbD 4 then 0x8000 + 16 * tile.toNat else ((0x9000 : Int) + 16 * tile.toInt).toNat
    let low := s.mem.get (addr + row % 8 * 2)
    let high := s.mem.get (addr + row % 8 * 2 + 1)
    let ci := 2 * bitNat high (7 - col % 8) + bitNat low (7 - col % 8)
    (L.getLsbD 0 = false → s.bgShade ly x = 0#2) ∧
    (L.getLsbD 0 = true → (s.bgShade ly x).toNat = s.io.bgp.toNat >>> (2 * ci) % 4) ∧
    (L.getLsbD 7 = false → (s.lineShades ly)[x]? = some 0#2) ∧
    (L.getLsbD 7 = true → L.getLsbD 1 = false → L.getLsbD 0 = false → (s.lineShades ly)[x]? = some 0#2) ∧
    (L.getLsbD 7 = true → L.getLsbD 1 = false → L.getLsbD 0 = true →
      ((s.lineShades ly)[x]?).map BitVec.toNat = some (s.io.bgp.toNat >>> (2 * ci) % 4))

/-- 60_exceptions.md R454, R457: where slot `k` of OAM lies, which lines it covers, and the colour index of its pixel `p` there, from
the two bytes of its tile row with the flips applied; the palette and its shades. -/
def Obligations.SpriteRow : Prop :=
  ∀ (s : State) (ly k p : Nat), k < 40 → p < 8 →
    let o := fun i => s.mem.get (0xFE00 + 4 * k + i)
    let h : Nat := if s.io.lcdc.getLsbD 2 then 16 else 8
    let y : Int := (o 0).toNat - 16
    s.spriteX k = (o 1).toNat - 8 ∧ (s.spriteCovers ly k = true ↔ y ≤ ly ∧ (ly : Int) < y + h) ∧
    (s.spriteCovers ly k = true →
      let r : Nat := if (o 3).getLsbD 6 then h - 1 - (ly - y).toNat else (ly - y).toNat
      let tile := if h = 16 then (o 2).toNat / 2 * 2 else (o 2).toNat
      let bit := if (o 3).getLsbD 5 then p else 7 - p
      let addr := 0x8000 + 16 * tile + 2 * r
      (s.spriteIndex ly k p).toNat = 2 * bitNat (s.mem.get (addr + 1)) bit + bitNat (s.mem.get addr) bit) ∧
    s.spritePalette k = (if (o 3).getLsbD 4 then s.io.obp1 else s.io.obp0) ∧
    ∀ (q : Byte) (i : Shade), (shadeOf q i).toNat = q.toNat >>> (2 * i.toNat) % 4

/-- 60_exceptions.md R455, R456: with sprites drawn, each pixel shows the last sprite in drawing order that covers it with a colour
index other than 0, and the background where there is none; the order is 0 to 39 for LATER_WINS, 39 to 0 for EARLIER_WINS. -/
def Obligations.SpriteCompositing : Prop :=
  ∀ (s : State) (ly x : Nat), x < 160 → s.io.lcdc.getLsbD 7 = true → s.io.lcdc.getLsbD 1 = true →
    (s.params.spriteOrder = .laterWins → (s.lineShades ly)[x]? =
      some (((List.range 40).reverse.findSome? (fun k => s.spriteShadeAt ly k x)).getD (s.bgShade ly x))) ∧
    (s.params.spriteOrder = .earlierWins → (s.lineShades ly)[x]? =
      some (((List.range 40).findSome? (fun k => s.spriteShadeAt ly k x)).getD (s.bgShade ly x)))

/-! ### The host -/

/-- 70_reset_and_hazards.md R501, R502, R510, R511: a machine is constructed from exactly 32768 bytes, which its ROM then reads, with
everything else at its reset value (`ResetRegisters`); a reset restores every reset value and keeps ROM. That a reset keeps the
parameters and the outside world, and the parameters and the blank cartridge of `State.reset`, are the model's choices
(notes/assumptions/18.md, 1.md to 3.md). -/
def Obligations.ConstructAndReset : Prop :=
  (∀ (p : Params) (image : List Byte), image.length ≠ 32768 → State.construct p image = none) ∧
  (∀ (p : Params) (image : List Byte), image.length = 32768 → ∃ s, State.construct p image = some s ∧
    (∀ (i : Nat) (h : i < image.length), s.readByte (BitVec.ofNat 16 i) = image[i]) ∧
    (∀ k, 0x8000 ≤ k → s.mem.get k = 0#8) ∧ s = State.resetWith p s.mem External.initial) ∧
  (∀ s : State, let t := s.hostReset
    (∀ a : Word, a.toNat < 0x8000 → t.readByte a = s.readByte a) ∧ (∀ k, 0x8000 ≤ k → t.mem.get k = 0#8) ∧
    t = State.resetWith s.params t.mem s.ext ∧ t.params = s.params ∧ t.ext = s.ext) ∧
  (∀ (p : Params) (rom : Memory) (x : External), let s := State.resetWith p rom x
    s.params = p ∧ s.ext = x ∧ s.mem = rom ∧ s.out = none ∧ ∀ a : Word, a.toNat < 0x8000 → s.readByte a = rom.get a.toNat) ∧
  State.reset = State.resetWith Params.default [] External.initial ∧
  Params.default = { leftOut := [], eiDelay := .one, mode3 := .constant 172, spriteOrder := .laterWins,
                     obp0Reset := 0xFF#8, obp1Reset := 0xFF#8 }

/-- 60_exceptions.md R465, R481 to R483: what the host does at a frame yield, in each of its choices; its report replaces the
buttons, and no other step changes them but a reset; after a stop no step has a next state; no step ever changes a parameter
(00_scope.md R10, R11). That the host's actions are a queue in the state with a free report where it is empty, that a yield belongs to
the step that completed the frame, and the fault `hostStopped` are the model's choices (notes/assumptions/6.md, 7.md). -/
def Obligations.ButtonsAtFrameYield : Prop :=
  (∀ s t : State, step s = .next t → t.params = s.params) ∧
  (∀ s t : State, s.live = true → step s = .next t → (∀ o, t.out = some o → o.frameComplete = false) → t.out ≠ none →
    t.buttons = s.buttons) ∧
  (∀ (s : State) (q : List HostAction), s.withYields q = { s with ext := { s.ext with yields := q } } ∧
    (s.ext.yields = .resume :: q → s.hostTurn = s.withYields q) ∧
    (∀ b : Buttons, s.ext.yields = .report b :: q → s.hostTurn = { s with buttons := b, ext := { s.ext with yields := q } }) ∧
    (s.ext.yields = .reset :: q → s.hostTurn = (s.withYields q).hostReset) ∧
    (s.ext.yields = .stop :: q → s.hostTurn = { s with ext := { s.ext with yields := q, stopped := true } })) ∧
  (∀ s : State, s.ext.yields = [] → ∃ b : Buttons,
    s.hostTurn = { s with buttons := b, ext := { s.ext with buttonsPos := s.ext.buttonsPos + 1 } }) ∧
  (∀ s : State, s.ext.stopped = true → step s = .fault .hostStopped) ∧
  (∀ s : State, s.out = none → s.frameYield = s) ∧
  (∀ (s : State) (o : StepOut), s.out = some o → s.frameYield = if o.frameComplete then s.hostTurn else s)
end

