-- ==== Sys2Proof/Laws/Memory.lean ====
section
/-! SUPPORT. The laws of memory: a read after a write, and that every operation keeps the canonical form. -/
namespace Sys2Proof.Machine

/-! ### Reading after writing -/

theorem Memory.get_cons_self (k : Nat) (v : Byte) (m : Memory) (h : m.get k = Memory.unlisted) :
    (Memory.cons k v m).get k = v := by
  unfold Memory.cons
  split
  · rename_i hv; rw [h, hv]
  · simp [Memory.get]

theorem Memory.get_cons_ne (k : Nat) (v : Byte) (m : Memory) {j : Nat} (h : j ≠ k) :
    (Memory.cons k v m).get j = m.get j := by
  unfold Memory.cons
  split
  · rfl
  · simp [Memory.get, Ne.symm h]

/-- Below the first address of a canonical memory nothing is listed. -/
theorem Memory.get_below {start : Nat} {m : Memory} (h : Memory.wfFrom start m = true) {k : Nat} (hk : k < start) :
    m.get k = Memory.unlisted := by
  induction m generalizing start with
  | nil => rfl
  | cons cell m ih =>
    obtain ⟨j, u⟩ := cell
    simp only [Memory.wfFrom, Bool.and_eq_true, decide_eq_true_eq] at h
    obtain ⟨⟨⟨hj, -⟩, -⟩, hm⟩ := h
    have : j ≠ k := by omega
    simp [Memory.get, this, ih hm (by omega)]

/-- A read after a write to the same address gives the byte written. -/
theorem Memory.get_put_self {m : Memory} {start : Nat} (h : Memory.wfFrom start m = true) (k : Nat) (v : Byte) :
    (Memory.put k v m).get k = v := by
  induction m generalizing start with
  | nil => exact Memory.get_cons_self k v [] rfl
  | cons cell m ih =>
    obtain ⟨j, u⟩ := cell
    have hw := h
    simp only [Memory.wfFrom, Bool.and_eq_true, decide_eq_true_eq] at h
    obtain ⟨⟨⟨hj, -⟩, -⟩, hm⟩ := h
    simp only [Memory.put]
    split
    · rename_i hlt
      refine Memory.get_cons_self k v _ ?_
      have : j ≠ k := by omega
      simp [Memory.get, this, Memory.get_below hm (show k < j + 1 by omega)]
    · split
      · rename_i hkj
        subst hkj
        exact Memory.get_cons_self _ v m (Memory.get_below hm (Nat.lt_succ_self _))
      · rename_i hkj
        simp [Memory.get, Ne.symm hkj, ih hm]

/-- A write leaves every other address as it is. -/
theorem Memory.get_put_ne (m : Memory) (k : Nat) (v : Byte) {j : Nat} (h : j ≠ k) :
    (Memory.put k v m).get j = m.get j := by
  induction m with
  | nil => exact Memory.get_cons_ne k v [] h
  | cons cell m ih =>
    obtain ⟨i, u⟩ := cell
    simp only [Memory.put]
    split
    · exact Memory.get_cons_ne k v _ h
    · split
      · rename_i hki
        subst hki
        simp [Memory.get_cons_ne k v m h, Memory.get, Ne.symm h]
      · simp [Memory.get, ih]

/-! ### The canonical form -/

theorem Memory.wfFrom_mono {m : Memory} {a b : Nat} (hab : a ≤ b) (h : Memory.wfFrom b m = true) :
    Memory.wfFrom a m = true := by
  cases m with
  | nil => rfl
  | cons cell m =>
    obtain ⟨j, u⟩ := cell
    simp only [Memory.wfFrom, Bool.and_eq_true, decide_eq_true_eq] at h ⊢
    exact ⟨⟨⟨by omega, h.1.1.2⟩, h.1.2⟩, h.2⟩

theorem Memory.cons_wfFrom {start k : Nat} {v : Byte} {m : Memory} (hk : start ≤ k) (hb : backed k = true)
    (h : Memory.wfFrom (k + 1) m = true) : Memory.wfFrom start (Memory.cons k v m) = true := by
  unfold Memory.cons
  split
  · exact Memory.wfFrom_mono (by omega) h
  · rename_i hv
    simp [Memory.wfFrom, hk, hb, hv, h]

theorem Memory.put_wfFrom {start k : Nat} {v : Byte} {m : Memory} (hk : start ≤ k) (hb : backed k = true)
    (h : Memory.wfFrom start m = true) : Memory.wfFrom start (Memory.put k v m) = true := by
  induction m generalizing start with
  | nil => exact Memory.cons_wfFrom hk hb rfl
  | cons cell m ih =>
    obtain ⟨j, u⟩ := cell
    have hw := h
    simp only [Memory.wfFrom, Bool.and_eq_true, decide_eq_true_eq] at h
    obtain ⟨⟨⟨hj, hbj⟩, hu⟩, hm⟩ := h
    simp only [Memory.put]
    split
    · refine Memory.cons_wfFrom hk hb ?_
      simp [Memory.wfFrom, hbj, hu, hm]
      omega
    · split
      · rename_i hkj
        subst hkj
        exact Memory.cons_wfFrom hk hb hm
      · simp [Memory.wfFrom, hj, hbj, hu, ih (start := j + 1) (by omega) hm]

/-- A write to a backed address keeps the canonical form. -/
theorem Memory.put_wf {m : Memory} {k : Nat} (v : Byte) (hb : backed k = true) (h : m.wf = true) :
    (Memory.put k v m).wf = true :=
  Memory.put_wfFrom (Nat.zero_le k) hb h

theorem Memory.romPart_wfFrom {start : Nat} {m : Memory} (h : Memory.wfFrom start m = true) :
    Memory.wfFrom start m.romPart = true := by
  induction m generalizing start with
  | nil => rfl
  | cons cell m ih =>
    obtain ⟨j, u⟩ := cell
    simp only [Memory.wfFrom, Bool.and_eq_true, decide_eq_true_eq] at h
    obtain ⟨⟨⟨hj, hbj⟩, hu⟩, hm⟩ := h
    have := ih hm
    unfold Memory.romPart at this ⊢
    rw [List.filter_cons]
    split
    · simp [Memory.wfFrom, hj, hbj, hu, this]
    · exact Memory.wfFrom_mono (by omega) this

/-- The ROM part of a canonical memory is canonical. -/
theorem Memory.romPart_wf {m : Memory} (h : m.wf = true) : m.romPart.wf = true :=
  Memory.romPart_wfFrom h

/-- A reset keeps every byte of ROM. -/
theorem Memory.get_romPart (m : Memory) {k : Nat} (hk : k < 0x8000) : m.romPart.get k = m.get k := by
  induction m with
  | nil => rfl
  | cons cell m ih =>
    obtain ⟨j, u⟩ := cell
    unfold Memory.romPart at ih ⊢
    rw [List.filter_cons]
    split
    · simp [Memory.get, ih]
    · rename_i hj
      have : j ≠ k := by rintro rfl; simp [hk] at hj
      simp [Memory.get, this, ih]

/-- A reset clears every byte above ROM. -/
theorem Memory.get_romPart_ram (m : Memory) {k : Nat} (hk : 0x8000 ≤ k) : m.romPart.get k = Memory.unlisted := by
  induction m with
  | nil => rfl
  | cons cell m ih =>
    obtain ⟨j, u⟩ := cell
    unfold Memory.romPart at ih ⊢
    rw [List.filter_cons]
    split
    · rename_i hj
      have : j ≠ k := by rintro rfl; simp at hj; omega
      simp [Memory.get, this, ih]
    · exact ih

theorem Memory.ofImage_wfFrom (image : List Byte) (k : Nat) (hk : k + image.length ≤ 0x8000) :
    Memory.wfFrom k (Memory.ofImage k image) = true := by
  induction image generalizing k with
  | nil => rfl
  | cons v r ih =>
    simp only [List.length_cons] at hk
    refine Memory.cons_wfFrom (Nat.le_refl k) ?_ (ih (k + 1) (by omega))
    simp [backed]
    omega

/-- The memory of a machine constructed from an image is canonical. -/
theorem Memory.ofImage_wf (image : List Byte) (h : image.length ≤ 0x8000) : (Memory.ofImage 0 image).wf = true :=
  Memory.ofImage_wfFrom image 0 (by omega)

/-- Memory after reset is canonical. -/
theorem reset_mem_wf : State.reset.mem.wf = true := rfl

end Sys2Proof.Machine
end

