-- ==== Sys2Proof/Laws/State.lean ====
section
/-! SUPPORT. What each update of the state leaves in each field: one lemma per field and update, so that no proof unfolds a
record update. -/
namespace Sys2Proof.Machine

/-! The end of a control transfer -/

@[simp] theorem jump_regs (s : State) (v : Word) (n : Nat) : (s.jump v n).regs = { s.regs with pc := v } := rfl
@[simp] theorem jump_ctl (s : State) (v : Word) (n : Nat) : (s.jump v n).ctl = s.ctl := rfl
@[simp] theorem jump_irq (s : State) (v : Word) (n : Nat) : (s.jump v n).irq = s.irq := rfl
@[simp] theorem jump_io (s : State) (v : Word) (n : Nat) : (s.jump v n).io = s.io := rfl
@[simp] theorem jump_ppu (s : State) (v : Word) (n : Nat) : (s.jump v n).ppu = s.ppu := rfl
@[simp] theorem jump_mem (s : State) (v : Word) (n : Nat) : (s.jump v n).mem = s.mem := rfl
@[simp] theorem jump_buttons (s : State) (v : Word) (n : Nat) : (s.jump v n).buttons = s.buttons := rfl
@[simp] theorem jump_params (s : State) (v : Word) (n : Nat) : (s.jump v n).params = s.params := rfl
@[simp] theorem jump_ext (s : State) (v : Word) (n : Nat) : (s.jump v n).ext = s.ext := rfl
@[simp] theorem jump_out (s : State) (v : Word) (n : Nat) : (s.jump v n).out = some { cycles := n, frameComplete := false } := rfl

/-! The end of any other instruction -/

@[simp] theorem finish_regs (s : State) (len n : Nat) : (s.finish len n).regs = { s.regs with pc := s.nextPc len } := rfl
@[simp] theorem finish_ctl (s : State) (len n : Nat) : (s.finish len n).ctl = s.ctl := rfl
@[simp] theorem finish_irq (s : State) (len n : Nat) : (s.finish len n).irq = s.irq := rfl
@[simp] theorem finish_io (s : State) (len n : Nat) : (s.finish len n).io = s.io := rfl
@[simp] theorem finish_ppu (s : State) (len n : Nat) : (s.finish len n).ppu = s.ppu := rfl
@[simp] theorem finish_mem (s : State) (len n : Nat) : (s.finish len n).mem = s.mem := rfl
@[simp] theorem finish_buttons (s : State) (len n : Nat) : (s.finish len n).buttons = s.buttons := rfl
@[simp] theorem finish_params (s : State) (len n : Nat) : (s.finish len n).params = s.params := rfl
@[simp] theorem finish_ext (s : State) (len n : Nat) : (s.finish len n).ext = s.ext := rfl
@[simp] theorem finish_out (s : State) (len n : Nat) : (s.finish len n).out = some { cycles := n, frameComplete := false } := rfl

/-! SP set -/

@[simp] theorem setSp_regs (s : State) (v : Word) : (s.setSp v).regs = { s.regs with sp := v } := rfl
@[simp] theorem setSp_ctl (s : State) (v : Word) : (s.setSp v).ctl = s.ctl := rfl
@[simp] theorem setSp_irq (s : State) (v : Word) : (s.setSp v).irq = s.irq := rfl
@[simp] theorem setSp_io (s : State) (v : Word) : (s.setSp v).io = s.io := rfl
@[simp] theorem setSp_ppu (s : State) (v : Word) : (s.setSp v).ppu = s.ppu := rfl
@[simp] theorem setSp_mem (s : State) (v : Word) : (s.setSp v).mem = s.mem := rfl
@[simp] theorem setSp_buttons (s : State) (v : Word) : (s.setSp v).buttons = s.buttons := rfl
@[simp] theorem setSp_params (s : State) (v : Word) : (s.setSp v).params = s.params := rfl
@[simp] theorem setSp_ext (s : State) (v : Word) : (s.setSp v).ext = s.ext := rfl
@[simp] theorem setSp_out (s : State) (v : Word) : (s.setSp v).out = s.out := rfl

/-! Registers changed -/

@[simp] theorem mapRegs_regs (s : State) (u : Regs → Regs) : (s.mapRegs u).regs = u s.regs := rfl
@[simp] theorem mapRegs_ctl (s : State) (u : Regs → Regs) : (s.mapRegs u).ctl = s.ctl := rfl
@[simp] theorem mapRegs_irq (s : State) (u : Regs → Regs) : (s.mapRegs u).irq = s.irq := rfl
@[simp] theorem mapRegs_io (s : State) (u : Regs → Regs) : (s.mapRegs u).io = s.io := rfl
@[simp] theorem mapRegs_ppu (s : State) (u : Regs → Regs) : (s.mapRegs u).ppu = s.ppu := rfl
@[simp] theorem mapRegs_mem (s : State) (u : Regs → Regs) : (s.mapRegs u).mem = s.mem := rfl
@[simp] theorem mapRegs_buttons (s : State) (u : Regs → Regs) : (s.mapRegs u).buttons = s.buttons := rfl
@[simp] theorem mapRegs_params (s : State) (u : Regs → Regs) : (s.mapRegs u).params = s.params := rfl
@[simp] theorem mapRegs_ext (s : State) (u : Regs → Regs) : (s.mapRegs u).ext = s.ext := rfl
@[simp] theorem mapRegs_out (s : State) (u : Regs → Regs) : (s.mapRegs u).out = s.out := rfl

/-! Flags set -/

@[simp] theorem setFlags_regs (s : State) (f : Flags) : (s.setFlags f).regs = { s.regs with f := f } := rfl
@[simp] theorem setFlags_ctl (s : State) (f : Flags) : (s.setFlags f).ctl = s.ctl := rfl
@[simp] theorem setFlags_irq (s : State) (f : Flags) : (s.setFlags f).irq = s.irq := rfl
@[simp] theorem setFlags_io (s : State) (f : Flags) : (s.setFlags f).io = s.io := rfl
@[simp] theorem setFlags_ppu (s : State) (f : Flags) : (s.setFlags f).ppu = s.ppu := rfl
@[simp] theorem setFlags_mem (s : State) (f : Flags) : (s.setFlags f).mem = s.mem := rfl
@[simp] theorem setFlags_buttons (s : State) (f : Flags) : (s.setFlags f).buttons = s.buttons := rfl
@[simp] theorem setFlags_params (s : State) (f : Flags) : (s.setFlags f).params = s.params := rfl
@[simp] theorem setFlags_ext (s : State) (f : Flags) : (s.setFlags f).ext = s.ext := rfl
@[simp] theorem setFlags_out (s : State) (f : Flags) : (s.setFlags f).out = s.out := rfl

/-! A byte stored -/

@[simp] theorem store_regs (s : State) (k : Nat) (v : Byte) : (s.store k v).regs = s.regs := rfl
@[simp] theorem store_ctl (s : State) (k : Nat) (v : Byte) : (s.store k v).ctl = s.ctl := rfl
@[simp] theorem store_irq (s : State) (k : Nat) (v : Byte) : (s.store k v).irq = s.irq := rfl
@[simp] theorem store_io (s : State) (k : Nat) (v : Byte) : (s.store k v).io = s.io := rfl
@[simp] theorem store_ppu (s : State) (k : Nat) (v : Byte) : (s.store k v).ppu = s.ppu := rfl
@[simp] theorem store_mem (s : State) (k : Nat) (v : Byte) : (s.store k v).mem = s.mem.put k v := rfl
@[simp] theorem store_buttons (s : State) (k : Nat) (v : Byte) : (s.store k v).buttons = s.buttons := rfl
@[simp] theorem store_params (s : State) (k : Nat) (v : Byte) : (s.store k v).params = s.params := rfl
@[simp] theorem store_ext (s : State) (k : Nat) (v : Byte) : (s.store k v).ext = s.ext := rfl
@[simp] theorem store_out (s : State) (k : Nat) (v : Byte) : (s.store k v).out = s.out := rfl

/-! A fatal stop -/

@[simp] theorem raiseFatal_regs (s : State) (op : BitVec 16) : (s.raiseFatal op).regs = s.regs := rfl
@[simp] theorem raiseFatal_ctl (s : State) (op : BitVec 16) : (s.raiseFatal op).ctl = { s.ctl with fatal := some { op := op, pc := s.regs.pc } } := rfl
@[simp] theorem raiseFatal_irq (s : State) (op : BitVec 16) : (s.raiseFatal op).irq = s.irq := rfl
@[simp] theorem raiseFatal_io (s : State) (op : BitVec 16) : (s.raiseFatal op).io = s.io := rfl
@[simp] theorem raiseFatal_ppu (s : State) (op : BitVec 16) : (s.raiseFatal op).ppu = s.ppu := rfl
@[simp] theorem raiseFatal_mem (s : State) (op : BitVec 16) : (s.raiseFatal op).mem = s.mem := rfl
@[simp] theorem raiseFatal_buttons (s : State) (op : BitVec 16) : (s.raiseFatal op).buttons = s.buttons := rfl
@[simp] theorem raiseFatal_params (s : State) (op : BitVec 16) : (s.raiseFatal op).params = s.params := rfl
@[simp] theorem raiseFatal_ext (s : State) (op : BitVec 16) : (s.raiseFatal op).ext = s.ext := rfl
@[simp] theorem raiseFatal_out (s : State) (op : BitVec 16) : (s.raiseFatal op).out = none := rfl

/-! An interrupt request -/

@[simp] theorem requestInterrupt_regs (s : State) (bit : Nat) : (s.requestInterrupt bit).regs = s.regs := rfl
@[simp] theorem requestInterrupt_ctl (s : State) (bit : Nat) : (s.requestInterrupt bit).ctl = s.ctl := rfl
@[simp] theorem requestInterrupt_irq (s : State) (bit : Nat) : (s.requestInterrupt bit).irq = { s.irq with flags := s.irq.flags ||| 1#5 <<< bit } := rfl
@[simp] theorem requestInterrupt_io (s : State) (bit : Nat) : (s.requestInterrupt bit).io = s.io := rfl
@[simp] theorem requestInterrupt_ppu (s : State) (bit : Nat) : (s.requestInterrupt bit).ppu = s.ppu := rfl
@[simp] theorem requestInterrupt_mem (s : State) (bit : Nat) : (s.requestInterrupt bit).mem = s.mem := rfl
@[simp] theorem requestInterrupt_buttons (s : State) (bit : Nat) : (s.requestInterrupt bit).buttons = s.buttons := rfl
@[simp] theorem requestInterrupt_params (s : State) (bit : Nat) : (s.requestInterrupt bit).params = s.params := rfl
@[simp] theorem requestInterrupt_ext (s : State) (bit : Nat) : (s.requestInterrupt bit).ext = s.ext := rfl
@[simp] theorem requestInterrupt_out (s : State) (bit : Nat) : (s.requestInterrupt bit).out = s.out := rfl

/-! The wake -/

@[simp] theorem wake_regs (s : State) : (s.wake).regs = s.regs := rfl
@[simp] theorem wake_ctl (s : State) : (s.wake).ctl = { s.ctl with halted := false } := rfl
@[simp] theorem wake_irq (s : State) : (s.wake).irq = s.irq := rfl
@[simp] theorem wake_io (s : State) : (s.wake).io = s.io := rfl
@[simp] theorem wake_ppu (s : State) : (s.wake).ppu = s.ppu := rfl
@[simp] theorem wake_mem (s : State) : (s.wake).mem = s.mem := rfl
@[simp] theorem wake_buttons (s : State) : (s.wake).buttons = s.buttons := rfl
@[simp] theorem wake_params (s : State) : (s.wake).params = s.params := rfl
@[simp] theorem wake_ext (s : State) : (s.wake).ext = s.ext := rfl
@[simp] theorem wake_out (s : State) : (s.wake).out = s.out := rfl

/-! A draw consumed -/

@[simp] theorem consumeDraw_regs (s : State) : (s.consumeDraw).regs = s.regs := by unfold State.consumeDraw; split <;> rfl
@[simp] theorem consumeDraw_ctl (s : State) : (s.consumeDraw).ctl = s.ctl := by unfold State.consumeDraw; split <;> rfl
@[simp] theorem consumeDraw_irq (s : State) : (s.consumeDraw).irq = s.irq := by unfold State.consumeDraw; split <;> rfl
@[simp] theorem consumeDraw_io (s : State) : (s.consumeDraw).io = s.io := by unfold State.consumeDraw; split <;> rfl
@[simp] theorem consumeDraw_ppu (s : State) : (s.consumeDraw).ppu = s.ppu := by unfold State.consumeDraw; split <;> rfl
@[simp] theorem consumeDraw_mem (s : State) : (s.consumeDraw).mem = s.mem := by unfold State.consumeDraw; split <;> rfl
@[simp] theorem consumeDraw_buttons (s : State) : (s.consumeDraw).buttons = s.buttons := by unfold State.consumeDraw; split <;> rfl
@[simp] theorem consumeDraw_params (s : State) : (s.consumeDraw).params = s.params := by unfold State.consumeDraw; split <;> rfl
@[simp] theorem consumeDraw_out (s : State) : (s.consumeDraw).out = s.out := by unfold State.consumeDraw; split <;> rfl

/-! A byte read -/

@[simp] theorem afterRead_regs (s : State) (a : Word) : (s.afterRead a).regs = s.regs := by unfold State.afterRead; split <;> simp
@[simp] theorem afterRead_ctl (s : State) (a : Word) : (s.afterRead a).ctl = s.ctl := by unfold State.afterRead; split <;> simp
@[simp] theorem afterRead_irq (s : State) (a : Word) : (s.afterRead a).irq = s.irq := by unfold State.afterRead; split <;> simp
@[simp] theorem afterRead_io (s : State) (a : Word) : (s.afterRead a).io = s.io := by unfold State.afterRead; split <;> simp
@[simp] theorem afterRead_ppu (s : State) (a : Word) : (s.afterRead a).ppu = s.ppu := by unfold State.afterRead; split <;> simp
@[simp] theorem afterRead_mem (s : State) (a : Word) : (s.afterRead a).mem = s.mem := by unfold State.afterRead; split <;> simp
@[simp] theorem afterRead_buttons (s : State) (a : Word) : (s.afterRead a).buttons = s.buttons := by unfold State.afterRead; split <;> simp
@[simp] theorem afterRead_params (s : State) (a : Word) : (s.afterRead a).params = s.params := by unfold State.afterRead; split <;> simp
@[simp] theorem afterRead_out (s : State) (a : Word) : (s.afterRead a).out = s.out := by unfold State.afterRead; split <;> simp

/-- A read of any other address than DIV leaves the state as it is (20_memory.md R80, R87). -/
theorem afterRead_of_ne (s : State) {a : Word} (h : a ≠ divAddr) : s.afterRead a = s := by
  simp [State.afterRead, h]

@[simp] theorem afterRead_div (s : State) : s.afterRead divAddr = s.consumeDraw := by
  simp [State.afterRead]

@[simp] theorem consumeDraw_yields (s : State) : s.consumeDraw.ext.yields = s.ext.yields := by
  unfold State.consumeDraw; split <;> rfl

@[simp] theorem consumeDraw_stopped (s : State) : s.consumeDraw.ext.stopped = s.ext.stopped := by
  unfold State.consumeDraw; split <;> rfl

@[simp] theorem afterRead_stopped (s : State) (a : Word) : (s.afterRead a).ext.stopped = s.ext.stopped := by
  unfold State.afterRead; split <;> simp

@[simp] theorem afterRead_yields (s : State) (a : Word) : (s.afterRead a).ext.yields = s.ext.yields := by
  unfold State.afterRead; split <;> simp

@[simp] theorem nextPc_eq (s : State) (len : Nat) : s.nextPc len = s.regs.pc + BitVec.ofNat 16 len := rfl

end Sys2Proof.Machine
end

