-- ==== Sys2Proof/Laws/Bus.lean ====
section
/-! SUPPORT. The laws of the dispatcher: what a read depends on, what a read leaves, and the whole effect of a write. -/
namespace Sys2Proof.Machine

/-! ### The map -/

/-- The addresses of a row of the map (20_memory.md R70). -/
def Region.holds : Region → Nat → Prop
  | .rom, k      => k < 0x8000
  | .vram, k     => 0x8000 ≤ k ∧ k < 0xA000
  | .cartRam, k  => 0xA000 ≤ k ∧ k < 0xC000
  | .wram, k     => 0xC000 ≤ k ∧ k < 0xE000
  | .echo, k     => 0xE000 ≤ k ∧ k < 0xFE00
  | .oam, k      => 0xFE00 ≤ k ∧ k < 0xFEA0
  | .unusable, k => 0xFEA0 ≤ k ∧ k < 0xFF00
  | .io, k       => 0xFF00 ≤ k ∧ k < 0xFF80
  | .hram, k     => 0xFF80 ≤ k ∧ k < 0xFFFF
  | .ie, k       => k = 0xFFFF

theorem regionOf_spec (a : Word) : (regionOf a).holds a.toNat := by
  have := a.isLt
  unfold regionOf
  simp only []
  repeat' split
  all_goals simp only [Region.holds]; omega

/-! ### What a read depends on -/

/-- The offset of a register in the I/O window (20_memory.md R84). -/
def IoReg.offset : IoReg → Nat
  | .p1    => 0x00
  | .div   => 0x04
  | .iflag => 0x0F
  | .lcdc  => 0x40
  | .stat  => 0x41
  | .scy   => 0x42
  | .scx   => 0x43
  | .ly    => 0x44
  | .lyc   => 0x45
  | .dma   => 0x46
  | .bgp   => 0x47
  | .obp0  => 0x48
  | .obp1  => 0x49
  | .wy    => 0x4A
  | .wx    => 0x4B

theorem ioRegAt_offset {k : Nat} {r : IoReg} (h : ioRegAt k = some r) : k = r.offset := by
  unfold ioRegAt at h
  split at h <;> first | (cases h; rfl) | simp at h

/-- A read answers the same in two states that agree on what it can depend on; only DIV depends on the outside world. -/
theorem readByte_congr {s t : State} {x : Word} (hio : t.io = s.io) (hirq : t.irq = s.irq) (hppu : t.ppu = s.ppu)
    (hb : t.buttons = s.buttons) (hm : t.mem.get x.toNat = s.mem.get x.toNat) (he : x = divAddr → t.ext = s.ext) :
    t.readByte x = s.readByte x := by
  unfold State.readByte
  cases hr : regionOf x <;> simp only [hm, hirq]
  cases hi : ioRegAt (x.toNat - 0xFF00) with
  | none => rfl
  | some r =>
    cases r <;> simp only [State.readIo, hio, hirq, hppu, hb, statValue]
    have hk : x.toNat - 0xFF00 = 4 := ioRegAt_offset hi
    have hx : x = divAddr := by
      have hge := regionOf_spec x
      rw [hr] at hge
      simp only [Region.holds] at hge
      apply BitVec.eq_of_toNat_eq
      show x.toNat = 0xFF04
      omega
    simp only [State.nextDraw, he hx]

/-- A byte stored elsewhere is not seen by a read. -/
theorem readByte_store_ne (s : State) (k : Nat) (v : Byte) {x : Word} (h : x.toNat ≠ k) :
    (s.store k v).readByte x = s.readByte x :=
  readByte_congr rfl rfl rfl rfl (Memory.get_put_ne s.mem k v h) fun _ => rfl

/-- What a read answers where an array backs the address. -/
theorem readByte_backed {s : State} {x : Word} (h : backed x.toNat = true) : s.readByte x = s.mem.get x.toNat := by
  simp only [backed, Bool.or_eq_true, decide_eq_true_eq] at h
  have hr := regionOf_spec x
  unfold State.readByte
  split <;> rename_i hx <;> rw [hx] at hr <;> simp only [Region.holds] at hr
  all_goals omega

/-- A stored byte reads back. -/
theorem readByte_store_self {s : State} (hw : s.mem.wf = true) {x : Word} (h : backed x.toNat = true) (v : Byte) :
    (s.store x.toNat v).readByte x = v := by
  rw [readByte_backed h]
  exact Memory.get_put_self hw x.toNat v

/-! ### What a read leaves -/

theorem consumeDraw_readByte (s : State) {x : Word} (h : x ≠ divAddr) : s.consumeDraw.readByte x = s.readByte x :=
  readByte_congr (by simp) (by simp) (by simp) (by simp) (by simp) fun hx => absurd hx h

/-- The whole effect of a read: the outside world alone changes, and only for DIV. -/
theorem afterRead_effect (s : State) (a : Word) : ReadEffect s (s.afterRead a) a := by
  refine ⟨by simp, by simp, by simp, by simp, by simp, by simp, by simp, ?_, ?_, ?_⟩
  · intro h; simp [State.afterRead, h]
  · intro h; simp [State.afterRead, h]
  · intro x hx
    unfold State.afterRead
    split
    · rename_i h
      exact consumeDraw_readByte s fun hd => hx ⟨h, hd⟩
    · rfl

/-! ### The OAM copy -/

/-- The state while the copy of page `v` runs: the first `n` bytes are in OAM, and nothing else has changed but the draw that the
read of DIV consumes. -/
structure CopyDone (s : State) (v : Byte) (n : Nat) (t : State) : Prop where
  regs    : t.regs = s.regs
  ctl     : t.ctl = s.ctl
  irq     : t.irq = s.irq
  io      : t.io = s.io
  ppu     : t.ppu = s.ppu
  buttons : t.buttons = s.buttons
  params  : t.params = s.params
  out     : t.out = s.out
  ext     : t.ext = if v = 0xFF#8 ∧ 4 < n then s.consumeDraw.ext else s.ext
  wf      : s.mem.wf = true → t.mem.wf = true
  copied  : s.mem.wf = true → ∀ i, i < n → t.mem.get (0xFE00 + i) = s.readByte (copySource v i)
  other   : ∀ k, ¬(0xFE00 ≤ k ∧ k < 0xFE00 + n) → t.mem.get k = s.mem.get k

theorem copySource_toNat (v : Byte) {i : Nat} (h : i < 160) : (copySource v i).toNat = v.toNat * 256 + i := by
  simp only [copySource, cat, BitVec.toNat_append, BitVec.toNat_ofNat]
  rw [Nat.mod_eq_of_lt (by omega), Nat.shiftLeft_eq, Nat.mul_comm, ← Nat.two_pow_add_eq_or_of_lt (by omega)]

theorem copySource_div {v : Byte} {i : Nat} (h : i < 160) : copySource v i = divAddr ↔ v = 0xFF#8 ∧ i = 4 := by
  have hv := v.isLt
  rw [← BitVec.toNat_inj, copySource_toNat v h, ← BitVec.toNat_inj]
  show _ = 0xFF04 ↔ v.toNat = 0xFF ∧ _
  omega

/-- One more byte of the copy. -/
theorem CopyDone.next {s t : State} {v : Byte} {n : Nat} (hn : n < 160) (h : CopyDone s v n t) :
    CopyDone s v (n + 1) (t.copyToOam v n) := by
  have hsrc : (t.copyToOam v n) = ((t.afterRead (copySource v n)).store (0xFE00 + n) (t.readByte (copySource v n))) := rfl
  have hnat := copySource_toNat v hn
  have hread : t.readByte (copySource v n) = s.readByte (copySource v n) := by
    refine readByte_congr h.io h.irq h.ppu h.buttons (h.other _ ?_) ?_
    · rw [hnat]; omega
    · intro hd
      rw [h.ext, if_neg]
      have := (copySource_div hn).1 hd
      omega
  have hb : backed (0xFE00 + n) = true := by simp [backed]; omega
  rw [hsrc]
  constructor
  · simp [h.regs]
  · simp [h.ctl]
  · simp [h.irq]
  · simp [h.io]
  · simp [h.ppu]
  · simp [h.buttons]
  · simp [h.params]
  · simp [h.out]
  · simp only [store_ext, State.afterRead, copySource_div hn]
    split
    · rename_i hd
      rw [if_pos ⟨hd.1, by omega⟩]
      have he : t.ext = s.ext := by rw [h.ext, if_neg]; omega
      unfold State.consumeDraw
      rw [he]
      cases s.ext.divInject <;> simp
    · rename_i hd
      rw [h.ext]
      by_cases hv : v = 0xFF#8
      · have : n ≠ 4 := fun hn4 => hd ⟨hv, hn4⟩
        by_cases h4 : 4 < n
        · rw [if_pos ⟨hv, h4⟩, if_pos ⟨hv, by omega⟩]
        · rw [if_neg (by omega), if_neg (by omega)]
      · simp [hv]
  · intro hw
    simpa using Memory.put_wf _ hb (h.wf hw)
  · intro hw i hi
    simp only [store_mem, afterRead_mem]
    by_cases hin : i = n
    · subst hin
      rw [Memory.get_put_self (start := 0) (h.wf hw), hread]
    · rw [Memory.get_put_ne _ _ _ (by omega)]
      exact h.copied hw i (by omega)
  · intro k hk
    simp only [store_mem, afterRead_mem]
    rw [Memory.get_put_ne _ _ _ (by omega)]
    exact h.other k (by omega)

theorem copy_upto (s : State) (v : Byte) (n : Nat) (hn : n ≤ 160) :
    CopyDone s v n ((List.range n).foldl (fun t i => t.copyToOam v i) s) := by
  induction n with
  | zero =>
    exact ⟨rfl, rfl, rfl, rfl, rfl, rfl, rfl, rfl, by simp, id, fun _ i hi => absurd hi (Nat.not_lt_zero i), fun _ _ => rfl⟩
  | succ n ih =>
    rw [List.range_succ, List.foldl_append]
    exact CopyDone.next (by omega) (ih (by omega))

/-- The OAM copy, whole (20_memory.md R90). -/
theorem oamCopy_done (s : State) (v : Byte) : CopyDone s v 160 (s.oamCopy v) := copy_upto s v 160 (Nat.le_refl 160)

/-! ### The whole effect of a write -/

/-- What every write leaves alone, whatever it does elsewhere. -/
structure WriteKeeps (s t : State) : Prop where
  regs    : t.regs = s.regs
  ctl     : t.ctl = s.ctl
  ppu     : t.ppu = s.ppu
  buttons : t.buttons = s.buttons
  params  : t.params = s.params
  out     : t.out = s.out
  wf      : s.mem.wf = true → t.mem.wf = true
  rom     : ∀ k, k < 0x8000 → t.mem.get k = s.mem.get k

theorem writeIo_keeps (s : State) (r : Option IoReg) (v : Byte) : WriteKeeps s (s.writeIo r v) := by
  cases r with
  | none => exact ⟨rfl, rfl, rfl, rfl, rfl, rfl, id, fun _ _ => rfl⟩
  | some r =>
    cases r
    case dma =>
      have h := oamCopy_done { s with io := { s.io with dma := v } } v
      exact ⟨h.regs, h.ctl, h.ppu, h.buttons, h.params, h.out, h.wf, fun k hk => h.other k (by omega)⟩
    all_goals exact ⟨rfl, rfl, rfl, rfl, rfl, rfl, id, fun _ _ => rfl⟩

theorem store_keeps (s : State) (k : Nat) (v : Byte) (hb : backed k = true) (hk : 0x8000 ≤ k) : WriteKeeps s (s.store k v) :=
  ⟨rfl, rfl, rfl, rfl, rfl, rfl, fun h => Memory.put_wf v hb h, fun j hj => Memory.get_put_ne s.mem k v (by omega)⟩

/-- No write changes a register, the CPU's control state, the PPU, the buttons, a parameter or a byte of ROM, and every write keeps
the canonical form (20_memory.md R71, R81, R89). -/
theorem writeByte_keeps (s : State) (a : Word) (v : Byte) : WriteKeeps s (s.writeByte a v) := by
  have hsame : WriteKeeps s s := ⟨rfl, rfl, rfl, rfl, rfl, rfl, id, fun _ _ => rfl⟩
  have hr := regionOf_spec a
  unfold State.writeByte
  split <;> rename_i h <;> rw [h] at hr <;> simp only [Region.holds] at hr
  case h_1 | h_3 | h_5 | h_7 => exact hsame
  case h_2 => exact store_keeps s _ v (by simp [backed]; omega) hr.1
  case h_4 => exact store_keeps s _ v (by simp [backed]; omega) (by omega)
  case h_6 => exact store_keeps s _ v (by simp [backed]; omega) (by omega)
  case h_8 => exact writeIo_keeps s _ v
  case h_9 => exact store_keeps s _ v (by simp [backed]; omega) (by omega)
  case h_10 => exact ⟨rfl, rfl, rfl, rfl, rfl, rfl, id, fun _ _ => rfl⟩

@[simp] theorem writeByte_regs (s : State) (a : Word) (v : Byte) : (s.writeByte a v).regs = s.regs := (writeByte_keeps s a v).regs
@[simp] theorem writeByte_ctl (s : State) (a : Word) (v : Byte) : (s.writeByte a v).ctl = s.ctl := (writeByte_keeps s a v).ctl
@[simp] theorem writeByte_ppu (s : State) (a : Word) (v : Byte) : (s.writeByte a v).ppu = s.ppu := (writeByte_keeps s a v).ppu
@[simp] theorem writeByte_buttons (s : State) (a : Word) (v : Byte) : (s.writeByte a v).buttons = s.buttons :=
  (writeByte_keeps s a v).buttons
@[simp] theorem writeByte_params (s : State) (a : Word) (v : Byte) : (s.writeByte a v).params = s.params :=
  (writeByte_keeps s a v).params
@[simp] theorem writeByte_out (s : State) (a : Word) (v : Byte) : (s.writeByte a v).out = s.out := (writeByte_keeps s a v).out

theorem ne_of_toNat {a b : Word} (h : a.toNat ≠ b.toNat) : a ≠ b := fun e => h (e ▸ rfl)

/-- A write that changes nothing has the effect that reading back says. -/
theorem storeEffect_drop {s : State} {a : Word} {v : Byte} (hw : s.mem.wf = true) (hd : a ≠ 0xFF46#16) (hl : a ≠ 0xFF45#16)
    (h : s.readByte a = readBack s a v) : StoreEffect s s a v :=
  ⟨rfl, rfl, rfl, rfl, hw, by rw [if_neg]; exact fun h => hd h.1, fun _ => rfl, h, fun h => absurd h hl, fun h => absurd h hd,
    fun _ _ => rfl⟩

/-- A byte stored in an array. -/
theorem storeEffect_array {s : State} {a : Word} {v : Byte} (hw : s.mem.wf = true) (hb : backed a.toNat = true)
    (hrom : 0x8000 ≤ a.toNat) : StoreEffect s (s.store a.toNat v) a v := by
  have hd : a ≠ 0xFF46#16 := by rintro rfl; exact absurd hb (by decide)
  have hl : a ≠ 0xFF45#16 := by rintro rfl; exact absurd hb (by decide)
  refine ⟨rfl, rfl, rfl, rfl, Memory.put_wf v hb hw, ?_, fun _ => rfl, ?_, fun h => absurd h hl, fun h => absurd h hd, ?_⟩
  · rw [if_neg]
    · rfl
    · exact fun h => hd h.1
  · rw [readByte_store_self hw hb]
    simp [readBack, hb, Nat.not_lt.2 hrom]
  · intro x hx
    exact readByte_store_ne s _ v fun h => hx (.inl (BitVec.eq_of_toNat_eq h))

theorem readByte_io {s : State} {x : Word} {r : IoReg} (h : regionOf x = .io) (hi : ioRegAt (x.toNat - 0xFF00) = some r) :
    s.readByte x = s.readIo (some r) := by
  unfold State.readByte
  rw [h, hi]

theorem readByte_dma (s : State) : s.readByte 0xFF46#16 = s.io.dma := readByte_io (r := .dma) (by decide) (by decide)

/-- The DMA latch is seen at its own address only. -/
theorem readByte_latch (s : State) (v : Byte) {x : Word} (hx : x ≠ 0xFF46#16) :
    State.readByte { s with io := { s.io with dma := v } } x = s.readByte x := by
  have hr := regionOf_spec x
  unfold State.readByte
  split
  case h_8 h =>
    rw [h] at hr
    simp only [Region.holds] at hr
    cases hi : ioRegAt (x.toNat - 0xFF00) with
    | none => rfl
    | some r =>
      cases r
      case dma =>
        have : x.toNat - 0xFF00 = 0x46 := ioRegAt_offset hi
        exact absurd (BitVec.eq_of_toNat_eq (show x.toNat = 0xFF46 by omega)) hx
      all_goals rfl
  all_goals rfl

/-- The copy that a write to the DMA register makes, as an effect (20_memory.md R90). -/
theorem storeEffect_dma {s : State} (hw : s.mem.wf = true) (v : Byte) :
    StoreEffect s (State.oamCopy { s with io := { s.io with dma := v } } v) 0xFF46#16 v := by
  have h := oamCopy_done { s with io := { s.io with dma := v } } v
  have hlatch := fun (x : Word) hx => readByte_latch s v (x := x) hx
  have hext : ∀ t : State, State.consumeDraw { t with io := { t.io with dma := v } } = { t.consumeDraw with io := { t.io with dma := v } } := by
    intro t; unfold State.consumeDraw; split <;> simp_all
  refine ⟨h.ctl, h.ppu, h.buttons, h.params, h.wf hw, ?_, fun _ => h.irq, ?_, fun h => absurd h (by decide), ?_, ?_⟩
  · rw [h.ext]
    simp only [true_and, hext, show (4 < 160) = True by simp, and_true]
  · rw [readByte_dma, h.io]
    rfl
  · intro _ i hi
    have hx : (BitVec.ofNat 16 (0xFE00 + i)).toNat = 0xFE00 + i := by
      rw [BitVec.toNat_ofNat, Nat.mod_eq_of_lt]; omega
    rw [readByte_backed (by rw [hx]; simp [backed]; omega), hx, h.copied hw i hi]
    unfold copied
    split
    · rename_i hs; rw [hs, readByte_dma]
    · rename_i hs; exact hlatch _ hs
  · intro x hx
    rw [← hlatch x (fun e => hx (.inl e))]
    refine readByte_congr h.io h.irq h.ppu h.buttons (h.other _ ?_) ?_
    · intro hk
      exact hx (.inr (.inr (.inl ⟨rfl, hk.1, by omega⟩)))
    · intro hdiv
      rw [h.ext, if_neg]
      intro hv
      exact hx (.inr (.inr (.inr ⟨rfl, hv.1, hdiv⟩)))

/-- The address of a register of the I/O window. -/
def IoReg.addr (r : IoReg) : Word := BitVec.ofNat 16 (0xFF00 + r.offset)

theorem IoReg.addr_of {x : Word} {r : IoReg} (hx : regionOf x = .io) (h : ioRegAt (x.toNat - 0xFF00) = some r) : x = r.addr := by
  have hr := regionOf_spec x
  rw [hx] at hr
  simp only [Region.holds] at hr
  have := ioRegAt_offset h
  apply BitVec.eq_of_toNat_eq
  rw [IoReg.addr, BitVec.toNat_ofNat, ← this, Nat.mod_eq_of_lt] <;> omega

theorem IoReg.region (r : IoReg) : regionOf r.addr = .io := by cases r <;> decide

theorem IoReg.at_addr (r : IoReg) : ioRegAt (r.addr.toNat - 0xFF00) = some r := by cases r <;> decide

/-- A read answers the same in two states that agree on memory, IE and the register it reaches. -/
theorem readByte_other {s t : State} {x : Word} (hm : t.mem = s.mem) (hie : t.irq.ie = s.irq.ie)
    (hio : ∀ r, x = r.addr → t.readIo (some r) = s.readIo (some r)) : t.readByte x = s.readByte x := by
  unfold State.readByte
  split <;> try simp only [hm, hie]
  rename_i hx
  cases h : ioRegAt (x.toNat - 0xFF00) with
  | none => rfl
  | some r => exact hio r (IoReg.addr_of hx h)

theorem flags_bits (v : Byte) : 0b111#3 ++ v.extractLsb' 0 5 = (0xE0#8 ||| (v &&& 0x1F#8) : Byte) := by
  revert v; decide

theorem stat_bits (v : Byte) (sel : BitVec 4) (c : BitVec 1) (m : BitVec 2) :
    (1#1 ++ v.extractLsb' 3 4 ++ c ++ m : Byte) = 0x80#8 ||| (v &&& 0x78#8) ||| ((1#1 ++ sel ++ c ++ m : Byte) &&& 0x07#8) := by
  apply BitVec.eq_of_getLsbD_eq
  intro i hi
  simp only [BitVec.getLsbD_or, BitVec.getLsbD_and, BitVec.getLsbD_append, BitVec.getLsbD_extractLsb']
  have : i = 0 ∨ i = 1 ∨ i = 2 ∨ i = 3 ∨ i = 4 ∨ i = 5 ∨ i = 6 ∨ i = 7 := by omega
  rcases this with rfl | rfl | rfl | rfl | rfl | rfl | rfl | rfl <;> simp

theorem readBack_stat (s : State) (v : Byte) :
    readBack s (IoReg.addr .stat) v = 0x80#8 ||| (v &&& 0x78#8) ||| (s.readByte (IoReg.addr .stat) &&& 0x07#8) := by
  simp [readBack, IoReg.addr, IoReg.offset, backed]
theorem readBack_div (s : State) (v : Byte) : readBack s (IoReg.addr .div) v = s.readByte (IoReg.addr .div) := by
  simp [readBack, IoReg.addr, IoReg.offset, backed]
theorem readBack_ly (s : State) (v : Byte) : readBack s (IoReg.addr .ly) v = s.readByte (IoReg.addr .ly) := by
  simp [readBack, IoReg.addr, IoReg.offset, backed]

theorem lyc_bits (sel : BitVec 4) (m : BitVec 2) (b c : Bool) :
    (1#1 ++ sel ++ BitVec.ofBool b ++ m : Byte) =
      ((1#1 ++ sel ++ BitVec.ofBool c ++ m : Byte) &&& 0xFB#8) ||| (if b = true then 0x04#8 else 0x00#8) := by
  revert sel m b c
  decide

/-- STAT after a write to LYC (R84, R88). -/
theorem readByte_stat_lyc (s : State) (v : Byte) :
    (s.writeIo (some .lyc) v).readByte 0xFF41#16 = statAfterLyc s v := by
  unfold statAfterLyc
  rw [readByte_io (r := .stat) (by decide) (by decide), readByte_io (r := .stat) (by decide) (by decide)]
  have h := lyc_bits s.io.statSel s.ppu.mode.bits (decide (s.ppu.ly = v.toNat)) (decide (s.ppu.ly = s.io.lyc.toNat))
  simp only [decide_eq_true_eq] at h
  exact h

/-- A write to one register of the I/O window, DMA apart: it reads back as `readBack` says, and only STAT's coincidence bit follows
another register. -/
theorem storeEffect_io {s : State} (hw : s.mem.wf = true) (r : IoReg) (v : Byte) (hr : r ≠ .dma) :
    StoreEffect s (s.writeIo (some r) v) r.addr v := by
  have hd : r.addr ≠ 0xFF46#16 := by cases r <;> first | decide | exact absurd rfl hr
  refine ⟨(writeIo_keeps s _ v).ctl, (writeIo_keeps s _ v).ppu, (writeIo_keeps s _ v).buttons, (writeIo_keeps s _ v).params,
    (writeIo_keeps s _ v).wf hw, ?_, ?_, ?_, ?_, fun h => absurd h hd, ?_⟩
  · rw [if_neg fun h => hd h.1]
    cases r <;> first | rfl | exact absurd rfl hr
  · intro h
    cases r <;> first | rfl | exact absurd rfl hr | exact absurd rfl h.1
  · rw [readByte_io (IoReg.region r) (IoReg.at_addr r)]
    cases r
    case dma => exact absurd rfl hr
    case p1 => rfl
    case iflag => exact flags_bits v
    case stat => rw [readBack_stat, readByte_io (IoReg.region .stat) (IoReg.at_addr .stat)]; exact stat_bits v s.io.statSel _ _
    case div => rw [readBack_div, readByte_io (IoReg.region .div) (IoReg.at_addr .div)]; rfl
    case ly => rw [readBack_ly, readByte_io (IoReg.region .ly) (IoReg.at_addr .ly)]; rfl
    all_goals rfl
  · intro h
    obtain rfl : r = .lyc := by cases r <;> first | rfl | exact absurd h (by decide)
    exact readByte_stat_lyc s v
  · intro x hx
    refine readByte_other ?_ ?_ ?_
    · cases r <;> first | rfl | exact absurd rfl hr
    · cases r <;> first | rfl | exact absurd rfl hr
    · intro q hq
      have hne : q ≠ r := fun e => hx (.inl (e ▸ hq))
      have hst : ¬(r = .lyc ∧ q = .stat) := by
        rintro ⟨rfl, rfl⟩
        exact hx (.inr (.inl ⟨rfl, hq⟩))
      cases r <;> cases q <;> first | rfl | exact absurd rfl hr | exact absurd rfl hne | exact absurd ⟨rfl, rfl⟩ hst

theorem backed_io {a : Word} (h : regionOf a = .io) : backed a.toNat = false := by
  have hr := regionOf_spec a
  rw [h] at hr
  simp only [Region.holds] at hr
  simp [backed]
  omega

theorem ioRegAt_some {k : Nat} (h : k = 0x00 ∨ k = 0x04 ∨ k = 0x0F ∨ (0x40 ≤ k ∧ k ≤ 0x4B)) : ioRegAt k ≠ none := by
  have : k = 0 ∨ k = 4 ∨ k = 15 ∨ k = 64 ∨ k = 65 ∨ k = 66 ∨ k = 67 ∨ k = 68 ∨ k = 69 ∨ k = 70 ∨ k = 71 ∨ k = 72 ∨ k = 73 ∨
      k = 74 ∨ k = 75 := by omega
  rcases this with rfl | rfl | rfl | rfl | rfl | rfl | rfl | rfl | rfl | rfl | rfl | rfl | rfl | rfl | rfl <;> decide

theorem readBack_open (s : State) (a : Word) (v : Byte) (hb : backed a.toNat = false) (hrom : 0x8000 ≤ a.toNat)
    (hn : ¬(a.toNat = 0xFFFF ∨ a.toNat = 0xFF00 ∨ a.toNat = 0xFF04 ∨ a.toNat = 0xFF0F ∨
      (0xFF40 ≤ a.toNat ∧ a.toNat ≤ 0xFF4B))) : readBack s a v = openBus := by
  simp only [readBack, hb, Bool.false_or, decide_eq_true_eq]
  rw [if_neg (by omega), if_neg (by omega), if_neg (by omega), if_neg (by omega), if_neg (by omega), if_neg (by omega),
    if_neg (by omega)]
  rfl

theorem readByte_ie (s : State) : s.readByte 0xFFFF#16 = s.irq.ie := by
  unfold State.readByte
  rw [show regionOf 0xFFFF#16 = .ie by decide]

theorem readBack_ie (s : State) (v : Byte) :
    State.readByte { s with irq := { s.irq with ie := v } } 0xFFFF#16 = readBack s 0xFFFF#16 v := by
  rw [readByte_ie]
  simp [readBack]

theorem readByte_ie_ne (s : State) (v : Byte) {x : Word} (hx : x ≠ 0xFFFF#16) :
    State.readByte { s with irq := { s.irq with ie := v } } x = s.readByte x := by
  unfold State.readByte
  split
  case h_10 hi =>
    have : x.toNat = 0xFFFF := by have := regionOf_spec x; rwa [hi] at this
    exact absurd (BitVec.eq_of_toNat_eq this) hx
  case h_8 =>
    cases ioRegAt (x.toNat - 0xFF00) with
    | none => rfl
    | some r => cases r <;> rfl
  all_goals rfl

theorem storeEffect_ie {s : State} (hw : s.mem.wf = true) (v : Byte) :
    StoreEffect s { s with irq := { s.irq with ie := v } } 0xFFFF#16 v := by
  have hd : (0xFFFF#16 : Word) ≠ 0xFF46#16 := by decide
  exact ⟨rfl, rfl, rfl, rfl, hw, by rw [if_neg fun h => hd h.1], fun h => absurd rfl h.2, readBack_ie s v,
    fun h => absurd h (by decide), fun h => absurd h hd, fun x hx => readByte_ie_ne s v fun e => hx (.inl e)⟩

theorem readBack_hole (s : State) {a : Word} (v : Byte)
    (h : (0xA000 ≤ a.toNat ∧ a.toNat < 0xC000) ∨ (0xE000 ≤ a.toNat ∧ a.toNat < 0xFE00) ∨
      (0xFEA0 ≤ a.toNat ∧ a.toNat < 0xFF00)) : readBack s a v = openBus := by
  refine readBack_open s a v ?_ (by omega) (by omega)
  simp [backed]
  omega

theorem readByte_unmapped {s : State} {a : Word} (h : regionOf a = .io) (hi : ioRegAt (a.toNat - 0xFF00) = none) :
    s.readByte a = openBus := by
  unfold State.readByte
  rw [h, hi]
  rfl

theorem storeEffect_window {s : State} (hw : s.mem.wf = true) {a : Word} (v : Byte) (h : regionOf a = .io) :
    StoreEffect s (s.writeIo (ioRegAt (a.toNat - 0xFF00)) v) a v := by
  have hr := regionOf_spec a
  rw [h] at hr
  simp only [Region.holds] at hr
  cases hi : ioRegAt (a.toNat - 0xFF00) with
  | none =>
    have hn := mt ioRegAt_some (not_not_intro hi)
    refine storeEffect_drop hw (ne_of_toNat ?_) (ne_of_toNat ?_) ?_
    · show a.toNat ≠ 0xFF46
      omega
    · show a.toNat ≠ 0xFF45
      omega
    · rw [readByte_unmapped h hi, readBack_open s a v (backed_io h) (by omega) (by omega)]
  | some r =>
    rw [IoReg.addr_of h hi]
    by_cases hd : r = .dma
    · subst hd
      rw [show IoReg.addr .dma = 0xFF46#16 by decide]
      exact storeEffect_dma hw v
    · exact storeEffect_io hw r v hd

/-- The whole effect of a write, at every address (20_memory.md R70, R81, R84, R88, R90). -/
theorem writeByte_effect {s : State} (hw : s.mem.wf = true) (a : Word) (v : Byte) : StoreEffect s (s.writeByte a v) a v := by
  have hr := regionOf_spec a
  have hd : ¬(a.toNat = 0xFF46) → a ≠ 0xFF46#16 := fun h => ne_of_toNat h
  have hl : ¬(a.toNat = 0xFF45) → a ≠ 0xFF45#16 := fun h => ne_of_toNat h
  unfold State.writeByte
  split <;> rename_i h <;> rw [h] at hr
  case h_8 => exact storeEffect_window hw v h
  case h_10 =>
    have ha : a = 0xFFFF#16 := BitVec.eq_of_toNat_eq hr
    subst ha
    exact storeEffect_ie hw v
  all_goals simp only [Region.holds] at hr
  case h_1 => exact storeEffect_drop hw (hd (by omega)) (hl (by omega)) (by simp [readBack, hr])
  case h_2 | h_4 | h_6 | h_9 => exact storeEffect_array hw (by simp [backed]; omega) (by omega)
  case h_3 | h_5 | h_7 => exact storeEffect_drop hw (hd (by omega)) (hl (by omega)) (by rw [readBack_hole s v (by omega), State.readByte, h])

end Sys2Proof.Machine
end

