-- ==== Sys2Proof/Laws/Ops.lean ====
section
/-! SUPPORT. The laws of the shared operations: the byte order helpers, the register file, the stack, and what every instruction
keeps. -/
namespace Sys2Proof.Machine

/-! ### Bytes of a word -/

@[simp] theorem lo_cat (h l : Byte) : lo (cat h l) = l := by
  apply BitVec.eq_of_getLsbD_eq
  intro i hi
  simp only [lo, cat, BitVec.getLsbD_extractLsb', BitVec.getLsbD_append]
  simp [hi]

@[simp] theorem hi_cat (h l : Byte) : hi (cat h l) = h := by
  apply BitVec.eq_of_getLsbD_eq
  intro i h
  simp only [hi, cat, BitVec.getLsbD_extractLsb', BitVec.getLsbD_append]
  simp [h]

/-- The high byte first, as a number (00_scope.md R13). -/
theorem cat_toNat (h l : Byte) : (cat h l).toNat = 256 * h.toNat + l.toNat := by
  unfold cat
  rw [BitVec.toNat_append, ← Nat.shiftLeft_add_eq_or_of_lt l.isLt, Nat.shiftLeft_eq]
  omega

@[simp] theorem cat_hi_lo (v : Word) : cat (hi v) (lo v) = v := by
  apply BitVec.eq_of_getLsbD_eq
  intro i _
  simp only [lo, hi, cat, BitVec.getLsbD_append, BitVec.getLsbD_extractLsb']
  by_cases h : i < 8
  · simp [h]
  · simp [h, show i - 8 < 8 by omega, show 8 + (i - 8) = i by omega]

/-! ### The register file -/

@[simp] theorem get8_set8_self (g : Regs) (r : Reg8) (v : Byte) : (g.set8 r v).get8 r = v := by cases r <;> rfl

theorem get8_set8_ne (g : Regs) {r q : Reg8} (v : Byte) (h : q ≠ r) : (g.set8 r v).get8 q = g.get8 q := by
  cases r <;> cases q <;> first | rfl | exact absurd rfl h

@[simp] theorem set8_f (g : Regs) (r : Reg8) (v : Byte) : (g.set8 r v).f = g.f := by cases r <;> rfl
@[simp] theorem set8_sp (g : Regs) (r : Reg8) (v : Byte) : (g.set8 r v).sp = g.sp := by cases r <;> rfl
@[simp] theorem set8_pc (g : Regs) (r : Reg8) (v : Byte) : (g.set8 r v).pc = g.pc := by cases r <;> rfl

@[simp] theorem getPair_setPair_self (g : Regs) (p : Pair) (v : Word) : (g.setPair p v).getPair p = v := by
  cases p <;> simp [Regs.getPair, Regs.setPair]

@[simp] theorem setPair_pc (g : Regs) (p : Pair) (v : Word) : (g.setPair p v).pc = g.pc := by cases p <;> rfl
@[simp] theorem setPair_f (g : Regs) (p : Pair) (v : Word) : (g.setPair p v).f = g.f := by cases p <;> rfl
@[simp] theorem setStackPair_pc (g : Regs) (p : StackPair) (v : Word) : (g.setStackPair p v).pc = g.pc := by cases p <;> rfl
@[simp] theorem setStackPair_sp (g : Regs) (p : StackPair) (v : Word) : (g.setStackPair p v).sp = g.sp := by cases p <;> rfl

/-! ### The stack -/

/-- A push is two writes, the high byte first, at SP - 1 and SP - 2 (00_scope.md R16). -/
theorem push16_writes (s : State) (v : Word) :
    s.push16 v =
      ((((s.setSp (s.regs.sp - 1#16)).writeByte (s.regs.sp - 1#16) (hi v)).setSp (s.regs.sp - 1#16 - 1#16)).writeByte
        (s.regs.sp - 1#16 - 1#16) (lo v)) := by
  simp [State.push16]

@[simp] theorem push16_regs (s : State) (v : Word) : (s.push16 v).regs = { s.regs with sp := s.regs.sp - 1#16 - 1#16 } := by
  simp [push16_writes]
@[simp] theorem push16_ctl (s : State) (v : Word) : (s.push16 v).ctl = s.ctl := by simp [push16_writes]
@[simp] theorem push16_ppu (s : State) (v : Word) : (s.push16 v).ppu = s.ppu := by simp [push16_writes]
@[simp] theorem push16_buttons (s : State) (v : Word) : (s.push16 v).buttons = s.buttons := by simp [push16_writes]
@[simp] theorem push16_params (s : State) (v : Word) : (s.push16 v).params = s.params := by simp [push16_writes]
@[simp] theorem push16_out (s : State) (v : Word) : (s.push16 v).out = s.out := by simp [push16_writes]

@[simp] theorem afterPop_regs (s : State) : s.afterPop.regs = { s.regs with sp := s.regs.sp + 2#16 } := by
  simp [State.afterPop]
@[simp] theorem afterPop_ctl (s : State) : s.afterPop.ctl = s.ctl := by simp [State.afterPop]
@[simp] theorem afterPop_irq (s : State) : s.afterPop.irq = s.irq := by simp [State.afterPop]
@[simp] theorem afterPop_io (s : State) : s.afterPop.io = s.io := by simp [State.afterPop]
@[simp] theorem afterPop_ppu (s : State) : s.afterPop.ppu = s.ppu := by simp [State.afterPop]
@[simp] theorem afterPop_mem (s : State) : s.afterPop.mem = s.mem := by simp [State.afterPop]
@[simp] theorem afterPop_buttons (s : State) : s.afterPop.buttons = s.buttons := by simp [State.afterPop]
@[simp] theorem afterPop_params (s : State) : s.afterPop.params = s.params := by simp [State.afterPop]
@[simp] theorem afterPop_out (s : State) : s.afterPop.out = s.out := by simp [State.afterPop]

/-! ### What every instruction keeps -/

/-- What no instruction changes: the PPU, the buttons, the parameters and every byte of ROM, and the canonical form of memory. -/
structure Keeps (s t : State) : Prop where
  ppu     : t.ppu = s.ppu
  buttons : t.buttons = s.buttons
  params  : t.params = s.params
  wf      : s.mem.wf = true → t.mem.wf = true
  rom     : ∀ k, k < 0x8000 → t.mem.get k = s.mem.get k

theorem Keeps.refl (s : State) : Keeps s s := ⟨rfl, rfl, rfl, id, fun _ _ => rfl⟩

theorem Keeps.trans {s t u : State} (h : Keeps s t) (h' : Keeps t u) : Keeps s u :=
  ⟨h'.ppu.trans h.ppu, h'.buttons.trans h.buttons, h'.params.trans h.params, h'.wf ∘ h.wf,
    fun k hk => (h'.rom k hk).trans (h.rom k hk)⟩

/-- Memory, the PPU, the buttons and the parameters equal. -/
theorem Keeps.of_eq {s t : State} (hp : t.ppu = s.ppu) (hb : t.buttons = s.buttons) (hq : t.params = s.params)
    (hm : t.mem = s.mem) : Keeps s t :=
  ⟨hp, hb, hq, hm ▸ id, fun _ _ => hm ▸ rfl⟩

theorem Keeps.read (s : State) (a : Word) : Keeps s (s.afterRead a) :=
  Keeps.of_eq (by simp) (by simp) (by simp) (by simp)

theorem Keeps.write (s : State) (a : Word) (v : Byte) : Keeps s (s.writeByte a v) :=
  let h := writeByte_keeps s a v
  ⟨h.ppu, h.buttons, h.params, h.wf, h.rom⟩

theorem Keeps.setSp (s : State) (v : Word) : Keeps s (s.setSp v) := Keeps.of_eq rfl rfl rfl rfl

theorem Keeps.push (s : State) (v : Word) : Keeps s (s.push16 v) := by
  rw [push16_writes]
  exact (((Keeps.setSp s _).trans (Keeps.write _ _ _)).trans (Keeps.setSp _ _)).trans (Keeps.write _ _ _)

theorem Keeps.pop (s : State) : Keeps s s.afterPop := Keeps.of_eq (by simp) (by simp) (by simp) (by simp)

/-- Keeping is not lost by changing registers, control state or the step's output. -/
theorem Keeps.then_eq {s t u : State} (h : Keeps s t) (hp : u.ppu = t.ppu) (hb : u.buttons = t.buttons)
    (hq : u.params = t.params) (hm : u.mem = t.mem) : Keeps s u :=
  h.trans (Keeps.of_eq hp hb hq hm)

/-- The interrupt dispatch keeps what an instruction keeps. -/
theorem Keeps.dispatch (s : State) : Keeps s s.dispatchInterrupt :=
  (Keeps.push s s.regs.pc).then_eq rfl rfl rfl rfl

end Sys2Proof.Machine
end

