-- ==== Sys2Proof/Laws/Effects.lean ====
section
/-! SUPPORT. The effects of Safety.lean do not look at the registers or at the step's output: two states that agree elsewhere have
the same effects, and a write commutes with a change of registers. -/
namespace Sys2Proof.Machine

/-- Two states that differ at most in the registers and the step's output. -/
structure SameWorld (s t : State) : Prop where
  ctl     : t.ctl = s.ctl
  irq     : t.irq = s.irq
  io      : t.io = s.io
  ppu     : t.ppu = s.ppu
  mem     : t.mem = s.mem
  buttons : t.buttons = s.buttons
  params  : t.params = s.params
  ext     : t.ext = s.ext

theorem SameWorld.refl (s : State) : SameWorld s s := ⟨rfl, rfl, rfl, rfl, rfl, rfl, rfl, rfl⟩

theorem SameWorld.readByte {s t : State} (h : SameWorld s t) (x : Word) : t.readByte x = s.readByte x :=
  readByte_congr h.io h.irq h.ppu h.buttons (by rw [h.mem]) fun _ => h.ext

theorem SameWorld.onlyRegs {s t : State} (h : SameWorld s t) : OnlyRegs s t :=
  ⟨h.ctl, h.irq, h.io, h.ppu, h.mem, h.buttons, h.params, h.ext, h.readByte⟩

theorem SameWorld.consumeDraw_ext {s t : State} (h : SameWorld s t) : t.consumeDraw.ext = s.consumeDraw.ext := by
  unfold State.consumeDraw
  rw [h.ext]
  cases s.ext.divInject <;> simp

theorem SameWorld.readEffect {s t u : State} {a : Word} (h : SameWorld t u) (he : ReadEffect s t a) : ReadEffect s u a := by
  obtain ⟨h1, h2, h3, h4, h5, h6, h7, h8, h9, h10⟩ := he
  exact ⟨h.ctl.trans h1, h.irq.trans h2, h.io.trans h3, h.ppu.trans h4, h.mem.trans h5, h.buttons.trans h6, h.params.trans h7,
    fun n => h.ext.trans (h8 n), fun e => h.ext.trans (h9 e), fun x hx => (h.readByte x).trans (h10 x hx)⟩

theorem SameWorld.storeEffect {s t u : State} {a : Word} {v : Byte} (h : SameWorld t u) (he : StoreEffect s t a v) :
    StoreEffect s u a v := by
  obtain ⟨h1, h2, h3, h4, hw, h5, h6, h7, hl, h8, h9⟩ := he
  exact ⟨h.ctl.trans h1, h.ppu.trans h2, h.buttons.trans h3, h.params.trans h4, by rw [h.mem]; exact hw, h.ext.trans h5,
    fun n => h.irq.trans (h6 n), (h.readByte a).trans h7, fun e => (h.readByte _).trans (hl e),
    fun e i hi => (h.readByte _).trans (h8 e i hi), fun x hx => (h.readByte x).trans (h9 x hx)⟩

/-- The registers with everything else: a state with other registers. -/
def State.withRegs (s : State) (g : Regs) : State := { s with regs := g }

theorem withRegs_world (s : State) (g : Regs) : SameWorld s (s.withRegs g) := ⟨rfl, rfl, rfl, rfl, rfl, rfl, rfl, rfl⟩

theorem withRegs_copyToOam (s : State) (g : Regs) (v : Byte) (i : Nat) :
    (s.withRegs g).copyToOam v i = (s.copyToOam v i).withRegs g := by
  unfold State.copyToOam State.afterRead
  simp only []
  rw [(withRegs_world s g).readByte]
  split
  · unfold State.consumeDraw
    cases h : s.ext.divInject <;> simp [State.withRegs, State.store, h]
  · rfl

theorem withRegs_copies (s : State) (g : Regs) (v : Byte) (l : List Nat) :
    l.foldl (fun t i => t.copyToOam v i) (s.withRegs g) = (l.foldl (fun t i => t.copyToOam v i) s).withRegs g := by
  induction l generalizing s with
  | nil => rfl
  | cons i l ih => rw [List.foldl_cons, List.foldl_cons, withRegs_copyToOam, ih]

theorem withRegs_oamCopy (s : State) (g : Regs) (v : Byte) : (s.withRegs g).oamCopy v = (s.oamCopy v).withRegs g :=
  withRegs_copies s g v _

/-- A write does not look at the registers. -/
theorem withRegs_writeByte (s : State) (g : Regs) (a : Word) (v : Byte) :
    (s.withRegs g).writeByte a v = (s.writeByte a v).withRegs g := by
  unfold State.writeByte
  split
  case h_8 =>
    cases ioRegAt (a.toNat - 0xFF00) with
    | none => rfl
    | some r =>
      cases r
      case dma => exact withRegs_oamCopy { s with io := { s.io with dma := v } } g v
      all_goals rfl
  all_goals rfl

theorem setSp_writeByte (s : State) (p : Word) (a : Word) (v : Byte) : (s.setSp p).writeByte a v = (s.writeByte a v).setSp p := by
  have h := withRegs_writeByte s { s.regs with sp := p } a v
  have h2 : (s.writeByte a v).setSp p = (s.writeByte a v).withRegs { (s.writeByte a v).regs with sp := p } := rfl
  rw [h2, writeByte_regs]
  exact h

/-- A push is two writes and a change of SP. -/
theorem push16_eq (s : State) (v : Word) :
    s.push16 v =
      ((s.writeByte (s.regs.sp - 1#16) (hi v)).writeByte (s.regs.sp - 1#16 - 1#16) (lo v)).setSp (s.regs.sp - 1#16 - 1#16) := by
  rw [push16_writes, setSp_writeByte, setSp_writeByte, setSp_writeByte]
  rfl

theorem sp_sub_two (p : Word) : p - 1#16 - 1#16 = p - 2#16 := by
  rw [BitVec.sub_sub]
  rfl

/-- The whole effect of a push (00_scope.md R16). -/
theorem push16_effect {s : State} (hw : s.mem.wf = true) (v : Word) : PushEffect s (s.push16 v) v := by
  refine ⟨⟨writeByte_effect hw _ _, ?_⟩, ?_, ?_⟩
  · rw [push16_eq, ← sp_sub_two]
    refine SameWorld.storeEffect ?_ (writeByte_effect ((writeByte_keeps s _ _).wf hw) _ _)
    exact ⟨rfl, rfl, rfl, rfl, rfl, rfl, rfl, rfl⟩
  · simp [sp_sub_two]
  · refine ⟨fun r _ => ?_, ?_⟩ <;> rw [push16_regs]
    cases r <;> rfl

/-- The whole effect of a pop (R16). -/
theorem afterPop_effect (s : State) : PopEffect s s.afterPop := by
  have hw : SameWorld ((s.afterRead s.regs.sp).afterRead (s.regs.sp + 1#16)) s.afterPop :=
    ⟨rfl, rfl, rfl, rfl, rfl, rfl, rfl, rfl⟩
  exact ⟨afterRead_effect s _, hw.readEffect (afterRead_effect _ _), by rw [afterPop_regs]⟩

end Sys2Proof.Machine
end

