-- ==== Sys2Proof/Laws/Exec.lean ====
section
/-! SUPPORT. What an instruction can do, said once: `Runs s t` lists the shared operations, and every instruction of the table
answers a next state that one of them gives. A fact about every instruction is a fact about each operation. -/
namespace Sys2Proof.Machine

/-- The opcodes that are never in IMPLEMENTED: STOP and the illegal ones (30_encoding.md R140, R141). -/
def neverImplemented : List (BitVec 16) :=
  [0x10, 0xD3, 0xDB, 0xDD, 0xE3, 0xE4, 0xEB, 0xEC, 0xED, 0xF4, 0xFC, 0xFD]

/-- One instruction, executed in `s`, can leave the state. -/
inductive Runs (s : State) : State → Prop
  | ldReg (dst r : Reg8) : Runs s (ldReg dst r s)
  | ldFromHl (dst : Reg8) : Runs s (ldFromHl dst s)
  | ldToHl (r : Reg8) : Runs s (ldToHl r s)
  | ldImm (dst : Reg8) (n : Byte) : Runs s (ldImm dst n s)
  | ldHlImm (n : Byte) : Runs s (ldHlImm n s)
  | loadA (a : Word) (len n : Nat) : Runs s (loadA a len n s)
  | storeA (a : Word) (len n : Nat) : Runs s (storeA a len n s)
  | loadAStep (d : Word) : Runs s (loadAStep d s)
  | storeAStep (d : Word) : Runs s (storeAStep d s)
  | ldPair (p : Pair) (v : Word) : Runs s (ldPair p v s)
  | storeSp (a : Word) : Runs s (storeSp a s)
  | ldSpHl : Runs s (ldSpHl s)
  | ldHlSp (u : Byte) : Runs s (ldHlSp u s)
  | push (p : StackPair) : Runs s (push p s)
  | pop (p : StackPair) : Runs s (pop p s)
  | aluReg (op : AluOp) (r : Reg8) : Runs s (aluReg op r s)
  | aluHl (op : AluOp) : Runs s (aluHl op s)
  | aluImm (op : AluOp) (n : Byte) : Runs s (aluImm op n s)
  | incReg (r : Reg8) : Runs s (incReg r s)
  | decReg (r : Reg8) : Runs s (decReg r s)
  | modifyHl (u : Byte → Flags → AluResult) (len n : Nat) : Runs s (modifyHl u len n s)
  | daa : Runs s (daa s)
  | cpl : Runs s (cpl s)
  | scf : Runs s (scf s)
  | ccf : Runs s (ccf s)
  | addHl (p : Pair) : Runs s (addHl p s)
  | stepPair (p : Pair) (d : Word) : Runs s (stepPair p d s)
  | addSp (u : Byte) : Runs s (addSp u s)
  | rotateA (op : RotOp) : Runs s (rotateA op s)
  | changeReg (u : Byte → Flags → AluResult) (r : Reg8) : Runs s (changeReg u r s)
  | bitReg (b : BitVec 3) (r : Reg8) : Runs s (bitReg b r s)
  | bitHl (b : BitVec 3) : Runs s (bitHl b s)
  | jpCond (cc : Cond) (v : Word) : Runs s (jpCond cc v s)
  | jrCond (cc : Cond) (e : Byte) : Runs s (jrCond cc e s)
  | callTo (v : Word) (len n : Nat) : Runs s (callTo v len n s)
  | callCond (cc : Cond) (v : Word) : Runs s (callCond cc v s)
  | returnTo (n : Nat) : Runs s (returnTo n s)
  | retCond (cc : Cond) : Runs s (retCond cc s)
  | halt : Runs s (halt s)
  | disableInterrupts : Runs s (disableInterrupts s)
  | enableInterrupts : Runs s (enableInterrupts s)
  | jump (v : Word) (n : Nat) : Runs s (s.jump v n)
  | finish (len n : Nat) : Runs s (s.finish len n)
  | returnFromInterrupt : Runs s (s.returnFromInterrupt)
  | raiseFatal (op : BitVec 16) (h : op ∈ neverImplemented) : Runs s (s.raiseFatal op)

/-- Every instruction answers a next state, which one of the shared operations gives. -/
theorem exec_runs (i : Instr) (s : State) : ∃ t, exec i s = .next t ∧ Runs s t := by
  match i with
  | .nop => exact ⟨_, rfl, .finish _ _⟩
  | .ldBcD16 _ => exact ⟨_, rfl, .ldPair _ _⟩
  | .ldAtBcA => exact ⟨_, rfl, .storeA _ _ _⟩
  | .incBc => exact ⟨_, rfl, .stepPair _ _⟩
  | .incB => exact ⟨_, rfl, .incReg _⟩
  | .decB => exact ⟨_, rfl, .decReg _⟩
  | .ldBD8 _ => exact ⟨_, rfl, .ldImm _ _⟩
  | .rlca => exact ⟨_, rfl, .rotateA _⟩
  | .ldAtA16Sp _ => exact ⟨_, rfl, .storeSp _⟩
  | .addHlBc => exact ⟨_, rfl, .addHl _⟩
  | .ldAAtBc => exact ⟨_, rfl, .loadA _ _ _⟩
  | .decBc => exact ⟨_, rfl, .stepPair _ _⟩
  | .incC => exact ⟨_, rfl, .incReg _⟩
  | .decC => exact ⟨_, rfl, .decReg _⟩
  | .ldCD8 _ => exact ⟨_, rfl, .ldImm _ _⟩
  | .rrca => exact ⟨_, rfl, .rotateA _⟩
  | .stop => exact ⟨_, rfl, .raiseFatal _ (by decide)⟩
  | .ldDeD16 _ => exact ⟨_, rfl, .ldPair _ _⟩
  | .ldAtDeA => exact ⟨_, rfl, .storeA _ _ _⟩
  | .incDe => exact ⟨_, rfl, .stepPair _ _⟩
  | .incD => exact ⟨_, rfl, .incReg _⟩
  | .decD => exact ⟨_, rfl, .decReg _⟩
  | .ldDD8 _ => exact ⟨_, rfl, .ldImm _ _⟩
  | .rla => exact ⟨_, rfl, .rotateA _⟩
  | .jrE8 _ => exact ⟨_, rfl, .jump _ _⟩
  | .addHlDe => exact ⟨_, rfl, .addHl _⟩
  | .ldAAtDe => exact ⟨_, rfl, .loadA _ _ _⟩
  | .decDe => exact ⟨_, rfl, .stepPair _ _⟩
  | .incE => exact ⟨_, rfl, .incReg _⟩
  | .decE => exact ⟨_, rfl, .decReg _⟩
  | .ldED8 _ => exact ⟨_, rfl, .ldImm _ _⟩
  | .rra => exact ⟨_, rfl, .rotateA _⟩
  | .jrNzE8 _ => exact ⟨_, rfl, .jrCond _ _⟩
  | .ldHlD16 _ => exact ⟨_, rfl, .ldPair _ _⟩
  | .ldAtHlIncA => exact ⟨_, rfl, .storeAStep _⟩
  | .incHl => exact ⟨_, rfl, .stepPair _ _⟩
  | .incH => exact ⟨_, rfl, .incReg _⟩
  | .decH => exact ⟨_, rfl, .decReg _⟩
  | .ldHD8 _ => exact ⟨_, rfl, .ldImm _ _⟩
  | .daa => exact ⟨_, rfl, .daa⟩
  | .jrZE8 _ => exact ⟨_, rfl, .jrCond _ _⟩
  | .addHlHl => exact ⟨_, rfl, .addHl _⟩
  | .ldAAtHlInc => exact ⟨_, rfl, .loadAStep _⟩
  | .decHl => exact ⟨_, rfl, .stepPair _ _⟩
  | .incL => exact ⟨_, rfl, .incReg _⟩
  | .decL => exact ⟨_, rfl, .decReg _⟩
  | .ldLD8 _ => exact ⟨_, rfl, .ldImm _ _⟩
  | .cpl => exact ⟨_, rfl, .cpl⟩
  | .jrNcE8 _ => exact ⟨_, rfl, .jrCond _ _⟩
  | .ldSpD16 _ => exact ⟨_, rfl, .ldPair _ _⟩
  | .ldAtHlDecA => exact ⟨_, rfl, .storeAStep _⟩
  | .incSp => exact ⟨_, rfl, .stepPair _ _⟩
  | .incAtHl => exact ⟨_, rfl, .modifyHl _ _ _⟩
  | .decAtHl => exact ⟨_, rfl, .modifyHl _ _ _⟩
  | .ldAtHlD8 _ => exact ⟨_, rfl, .ldHlImm _⟩
  | .scf => exact ⟨_, rfl, .scf⟩
  | .jrCE8 _ => exact ⟨_, rfl, .jrCond _ _⟩
  | .addHlSp => exact ⟨_, rfl, .addHl _⟩
  | .ldAAtHlDec => exact ⟨_, rfl, .loadAStep _⟩
  | .decSp => exact ⟨_, rfl, .stepPair _ _⟩
  | .incA => exact ⟨_, rfl, .incReg _⟩
  | .decA => exact ⟨_, rfl, .decReg _⟩
  | .ldAD8 _ => exact ⟨_, rfl, .ldImm _ _⟩
  | .ccf => exact ⟨_, rfl, .ccf⟩
  | .ldBB => exact ⟨_, rfl, .ldReg _ _⟩
  | .ldBC => exact ⟨_, rfl, .ldReg _ _⟩
  | .ldBD => exact ⟨_, rfl, .ldReg _ _⟩
  | .ldBE => exact ⟨_, rfl, .ldReg _ _⟩
  | .ldBH => exact ⟨_, rfl, .ldReg _ _⟩
  | .ldBL => exact ⟨_, rfl, .ldReg _ _⟩
  | .ldBAtHl => exact ⟨_, rfl, .ldFromHl _⟩
  | .ldBA => exact ⟨_, rfl, .ldReg _ _⟩
  | .ldCB => exact ⟨_, rfl, .ldReg _ _⟩
  | .ldCC => exact ⟨_, rfl, .ldReg _ _⟩
  | .ldCD => exact ⟨_, rfl, .ldReg _ _⟩
  | .ldCE => exact ⟨_, rfl, .ldReg _ _⟩
  | .ldCH => exact ⟨_, rfl, .ldReg _ _⟩
  | .ldCL => exact ⟨_, rfl, .ldReg _ _⟩
  | .ldCAtHl => exact ⟨_, rfl, .ldFromHl _⟩
  | .ldCA => exact ⟨_, rfl, .ldReg _ _⟩
  | .ldDB => exact ⟨_, rfl, .ldReg _ _⟩
  | .ldDC => exact ⟨_, rfl, .ldReg _ _⟩
  | .ldDD => exact ⟨_, rfl, .ldReg _ _⟩
  | .ldDE => exact ⟨_, rfl, .ldReg _ _⟩
  | .ldDH => exact ⟨_, rfl, .ldReg _ _⟩
  | .ldDL => exact ⟨_, rfl, .ldReg _ _⟩
  | .ldDAtHl => exact ⟨_, rfl, .ldFromHl _⟩
  | .ldDA => exact ⟨_, rfl, .ldReg _ _⟩
  | .ldEB => exact ⟨_, rfl, .ldReg _ _⟩
  | .ldEC => exact ⟨_, rfl, .ldReg _ _⟩
  | .ldED => exact ⟨_, rfl, .ldReg _ _⟩
  | .ldEE => exact ⟨_, rfl, .ldReg _ _⟩
  | .ldEH => exact ⟨_, rfl, .ldReg _ _⟩
  | .ldEL => exact ⟨_, rfl, .ldReg _ _⟩
  | .ldEAtHl => exact ⟨_, rfl, .ldFromHl _⟩
  | .ldEA => exact ⟨_, rfl, .ldReg _ _⟩
  | .ldHB => exact ⟨_, rfl, .ldReg _ _⟩
  | .ldHC => exact ⟨_, rfl, .ldReg _ _⟩
  | .ldHD => exact ⟨_, rfl, .ldReg _ _⟩
  | .ldHE => exact ⟨_, rfl, .ldReg _ _⟩
  | .ldHH => exact ⟨_, rfl, .ldReg _ _⟩
  | .ldHL => exact ⟨_, rfl, .ldReg _ _⟩
  | .ldHAtHl => exact ⟨_, rfl, .ldFromHl _⟩
  | .ldHA => exact ⟨_, rfl, .ldReg _ _⟩
  | .ldLB => exact ⟨_, rfl, .ldReg _ _⟩
  | .ldLC => exact ⟨_, rfl, .ldReg _ _⟩
  | .ldLD => exact ⟨_, rfl, .ldReg _ _⟩
  | .ldLE => exact ⟨_, rfl, .ldReg _ _⟩
  | .ldLH => exact ⟨_, rfl, .ldReg _ _⟩
  | .ldLL => exact ⟨_, rfl, .ldReg _ _⟩
  | .ldLAtHl => exact ⟨_, rfl, .ldFromHl _⟩
  | .ldLA => exact ⟨_, rfl, .ldReg _ _⟩
  | .ldAtHlB => exact ⟨_, rfl, .ldToHl _⟩
  | .ldAtHlC => exact ⟨_, rfl, .ldToHl _⟩
  | .ldAtHlD => exact ⟨_, rfl, .ldToHl _⟩
  | .ldAtHlE => exact ⟨_, rfl, .ldToHl _⟩
  | .ldAtHlH => exact ⟨_, rfl, .ldToHl _⟩
  | .ldAtHlL => exact ⟨_, rfl, .ldToHl _⟩
  | .halt => exact ⟨_, rfl, .halt⟩
  | .ldAtHlA => exact ⟨_, rfl, .ldToHl _⟩
  | .ldAB => exact ⟨_, rfl, .ldReg _ _⟩
  | .ldAC => exact ⟨_, rfl, .ldReg _ _⟩
  | .ldAD => exact ⟨_, rfl, .ldReg _ _⟩
  | .ldAE => exact ⟨_, rfl, .ldReg _ _⟩
  | .ldAH => exact ⟨_, rfl, .ldReg _ _⟩
  | .ldAL => exact ⟨_, rfl, .ldReg _ _⟩
  | .ldAAtHl => exact ⟨_, rfl, .ldFromHl _⟩
  | .ldAA => exact ⟨_, rfl, .ldReg _ _⟩
  | .addAB => exact ⟨_, rfl, .aluReg _ _⟩
  | .addAC => exact ⟨_, rfl, .aluReg _ _⟩
  | .addAD => exact ⟨_, rfl, .aluReg _ _⟩
  | .addAE => exact ⟨_, rfl, .aluReg _ _⟩
  | .addAH => exact ⟨_, rfl, .aluReg _ _⟩
  | .addAL => exact ⟨_, rfl, .aluReg _ _⟩
  | .addAAtHl => exact ⟨_, rfl, .aluHl _⟩
  | .addAA => exact ⟨_, rfl, .aluReg _ _⟩
  | .adcAB => exact ⟨_, rfl, .aluReg _ _⟩
  | .adcAC => exact ⟨_, rfl, .aluReg _ _⟩
  | .adcAD => exact ⟨_, rfl, .aluReg _ _⟩
  | .adcAE => exact ⟨_, rfl, .aluReg _ _⟩
  | .adcAH => exact ⟨_, rfl, .aluReg _ _⟩
  | .adcAL => exact ⟨_, rfl, .aluReg _ _⟩
  | .adcAAtHl => exact ⟨_, rfl, .aluHl _⟩
  | .adcAA => exact ⟨_, rfl, .aluReg _ _⟩
  | .subB => exact ⟨_, rfl, .aluReg _ _⟩
  | .subC => exact ⟨_, rfl, .aluReg _ _⟩
  | .subD => exact ⟨_, rfl, .aluReg _ _⟩
  | .subE => exact ⟨_, rfl, .aluReg _ _⟩
  | .subH => exact ⟨_, rfl, .aluReg _ _⟩
  | .subL => exact ⟨_, rfl, .aluReg _ _⟩
  | .subAtHl => exact ⟨_, rfl, .aluHl _⟩
  | .subA => exact ⟨_, rfl, .aluReg _ _⟩
  | .sbcAB => exact ⟨_, rfl, .aluReg _ _⟩
  | .sbcAC => exact ⟨_, rfl, .aluReg _ _⟩
  | .sbcAD => exact ⟨_, rfl, .aluReg _ _⟩
  | .sbcAE => exact ⟨_, rfl, .aluReg _ _⟩
  | .sbcAH => exact ⟨_, rfl, .aluReg _ _⟩
  | .sbcAL => exact ⟨_, rfl, .aluReg _ _⟩
  | .sbcAAtHl => exact ⟨_, rfl, .aluHl _⟩
  | .sbcAA => exact ⟨_, rfl, .aluReg _ _⟩
  | .andB => exact ⟨_, rfl, .aluReg _ _⟩
  | .andC => exact ⟨_, rfl, .aluReg _ _⟩
  | .andD => exact ⟨_, rfl, .aluReg _ _⟩
  | .andE => exact ⟨_, rfl, .aluReg _ _⟩
  | .andH => exact ⟨_, rfl, .aluReg _ _⟩
  | .andL => exact ⟨_, rfl, .aluReg _ _⟩
  | .andAtHl => exact ⟨_, rfl, .aluHl _⟩
  | .andA => exact ⟨_, rfl, .aluReg _ _⟩
  | .xorB => exact ⟨_, rfl, .aluReg _ _⟩
  | .xorC => exact ⟨_, rfl, .aluReg _ _⟩
  | .xorD => exact ⟨_, rfl, .aluReg _ _⟩
  | .xorE => exact ⟨_, rfl, .aluReg _ _⟩
  | .xorH => exact ⟨_, rfl, .aluReg _ _⟩
  | .xorL => exact ⟨_, rfl, .aluReg _ _⟩
  | .xorAtHl => exact ⟨_, rfl, .aluHl _⟩
  | .xorA => exact ⟨_, rfl, .aluReg _ _⟩
  | .orB => exact ⟨_, rfl, .aluReg _ _⟩
  | .orC => exact ⟨_, rfl, .aluReg _ _⟩
  | .orD => exact ⟨_, rfl, .aluReg _ _⟩
  | .orE => exact ⟨_, rfl, .aluReg _ _⟩
  | .orH => exact ⟨_, rfl, .aluReg _ _⟩
  | .orL => exact ⟨_, rfl, .aluReg _ _⟩
  | .orAtHl => exact ⟨_, rfl, .aluHl _⟩
  | .orA => exact ⟨_, rfl, .aluReg _ _⟩
  | .cpB => exact ⟨_, rfl, .aluReg _ _⟩
  | .cpC => exact ⟨_, rfl, .aluReg _ _⟩
  | .cpD => exact ⟨_, rfl, .aluReg _ _⟩
  | .cpE => exact ⟨_, rfl, .aluReg _ _⟩
  | .cpH => exact ⟨_, rfl, .aluReg _ _⟩
  | .cpL => exact ⟨_, rfl, .aluReg _ _⟩
  | .cpAtHl => exact ⟨_, rfl, .aluHl _⟩
  | .cpA => exact ⟨_, rfl, .aluReg _ _⟩
  | .retNz => exact ⟨_, rfl, .retCond _⟩
  | .popBc => exact ⟨_, rfl, .pop _⟩
  | .jpNzA16 _ => exact ⟨_, rfl, .jpCond _ _⟩
  | .jpA16 _ => exact ⟨_, rfl, .jump _ _⟩
  | .callNzA16 _ => exact ⟨_, rfl, .callCond _ _⟩
  | .pushBc => exact ⟨_, rfl, .push _⟩
  | .addAD8 _ => exact ⟨_, rfl, .aluImm _ _⟩
  | .rst00 => exact ⟨_, rfl, .callTo _ _ _⟩
  | .retZ => exact ⟨_, rfl, .retCond _⟩
  | .ret => exact ⟨_, rfl, .returnTo _⟩
  | .jpZA16 _ => exact ⟨_, rfl, .jpCond _ _⟩
  | .callZA16 _ => exact ⟨_, rfl, .callCond _ _⟩
  | .callA16 _ => exact ⟨_, rfl, .callTo _ _ _⟩
  | .adcAD8 _ => exact ⟨_, rfl, .aluImm _ _⟩
  | .rst08 => exact ⟨_, rfl, .callTo _ _ _⟩
  | .retNc => exact ⟨_, rfl, .retCond _⟩
  | .popDe => exact ⟨_, rfl, .pop _⟩
  | .jpNcA16 _ => exact ⟨_, rfl, .jpCond _ _⟩
  | .callNcA16 _ => exact ⟨_, rfl, .callCond _ _⟩
  | .pushDe => exact ⟨_, rfl, .push _⟩
  | .subD8 _ => exact ⟨_, rfl, .aluImm _ _⟩
  | .rst10 => exact ⟨_, rfl, .callTo _ _ _⟩
  | .retC => exact ⟨_, rfl, .retCond _⟩
  | .reti => exact ⟨_, rfl, .returnFromInterrupt⟩
  | .jpCA16 _ => exact ⟨_, rfl, .jpCond _ _⟩
  | .callCA16 _ => exact ⟨_, rfl, .callCond _ _⟩
  | .sbcAD8 _ => exact ⟨_, rfl, .aluImm _ _⟩
  | .rst18 => exact ⟨_, rfl, .callTo _ _ _⟩
  | .ldhAtA8A _ => exact ⟨_, rfl, .storeA _ _ _⟩
  | .popHl => exact ⟨_, rfl, .pop _⟩
  | .ldAtCA => exact ⟨_, rfl, .storeA _ _ _⟩
  | .pushHl => exact ⟨_, rfl, .push _⟩
  | .andD8 _ => exact ⟨_, rfl, .aluImm _ _⟩
  | .rst20 => exact ⟨_, rfl, .callTo _ _ _⟩
  | .addSpE8 _ => exact ⟨_, rfl, .addSp _⟩
  | .jpHl => exact ⟨_, rfl, .jump _ _⟩
  | .ldAtA16A _ => exact ⟨_, rfl, .storeA _ _ _⟩
  | .xorD8 _ => exact ⟨_, rfl, .aluImm _ _⟩
  | .rst28 => exact ⟨_, rfl, .callTo _ _ _⟩
  | .ldhAAtA8 _ => exact ⟨_, rfl, .loadA _ _ _⟩
  | .popAf => exact ⟨_, rfl, .pop _⟩
  | .ldAAtC => exact ⟨_, rfl, .loadA _ _ _⟩
  | .di => exact ⟨_, rfl, .disableInterrupts⟩
  | .pushAf => exact ⟨_, rfl, .push _⟩
  | .orD8 _ => exact ⟨_, rfl, .aluImm _ _⟩
  | .rst30 => exact ⟨_, rfl, .callTo _ _ _⟩
  | .ldHlSpE8 _ => exact ⟨_, rfl, .ldHlSp _⟩
  | .ldSpHl => exact ⟨_, rfl, .ldSpHl⟩
  | .ldAAtA16 _ => exact ⟨_, rfl, .loadA _ _ _⟩
  | .ei => exact ⟨_, rfl, .enableInterrupts⟩
  | .cpD8 _ => exact ⟨_, rfl, .aluImm _ _⟩
  | .rst38 => exact ⟨_, rfl, .callTo _ _ _⟩
  | .rlcB => exact ⟨_, rfl, .changeReg _ _⟩
  | .rlcC => exact ⟨_, rfl, .changeReg _ _⟩
  | .rlcD => exact ⟨_, rfl, .changeReg _ _⟩
  | .rlcE => exact ⟨_, rfl, .changeReg _ _⟩
  | .rlcH => exact ⟨_, rfl, .changeReg _ _⟩
  | .rlcL => exact ⟨_, rfl, .changeReg _ _⟩
  | .rlcAtHl => exact ⟨_, rfl, .modifyHl _ _ _⟩
  | .rlcA => exact ⟨_, rfl, .changeReg _ _⟩
  | .rrcB => exact ⟨_, rfl, .changeReg _ _⟩
  | .rrcC => exact ⟨_, rfl, .changeReg _ _⟩
  | .rrcD => exact ⟨_, rfl, .changeReg _ _⟩
  | .rrcE => exact ⟨_, rfl, .changeReg _ _⟩
  | .rrcH => exact ⟨_, rfl, .changeReg _ _⟩
  | .rrcL => exact ⟨_, rfl, .changeReg _ _⟩
  | .rrcAtHl => exact ⟨_, rfl, .modifyHl _ _ _⟩
  | .rrcA => exact ⟨_, rfl, .changeReg _ _⟩
  | .rlB => exact ⟨_, rfl, .changeReg _ _⟩
  | .rlC => exact ⟨_, rfl, .changeReg _ _⟩
  | .rlD => exact ⟨_, rfl, .changeReg _ _⟩
  | .rlE => exact ⟨_, rfl, .changeReg _ _⟩
  | .rlH => exact ⟨_, rfl, .changeReg _ _⟩
  | .rlL => exact ⟨_, rfl, .changeReg _ _⟩
  | .rlAtHl => exact ⟨_, rfl, .modifyHl _ _ _⟩
  | .rlA => exact ⟨_, rfl, .changeReg _ _⟩
  | .rrB => exact ⟨_, rfl, .changeReg _ _⟩
  | .rrC => exact ⟨_, rfl, .changeReg _ _⟩
  | .rrD => exact ⟨_, rfl, .changeReg _ _⟩
  | .rrE => exact ⟨_, rfl, .changeReg _ _⟩
  | .rrH => exact ⟨_, rfl, .changeReg _ _⟩
  | .rrL => exact ⟨_, rfl, .changeReg _ _⟩
  | .rrAtHl => exact ⟨_, rfl, .modifyHl _ _ _⟩
  | .rrA => exact ⟨_, rfl, .changeReg _ _⟩
  | .slaB => exact ⟨_, rfl, .changeReg _ _⟩
  | .slaC => exact ⟨_, rfl, .changeReg _ _⟩
  | .slaD => exact ⟨_, rfl, .changeReg _ _⟩
  | .slaE => exact ⟨_, rfl, .changeReg _ _⟩
  | .slaH => exact ⟨_, rfl, .changeReg _ _⟩
  | .slaL => exact ⟨_, rfl, .changeReg _ _⟩
  | .slaAtHl => exact ⟨_, rfl, .modifyHl _ _ _⟩
  | .slaA => exact ⟨_, rfl, .changeReg _ _⟩
  | .sraB => exact ⟨_, rfl, .changeReg _ _⟩
  | .sraC => exact ⟨_, rfl, .changeReg _ _⟩
  | .sraD => exact ⟨_, rfl, .changeReg _ _⟩
  | .sraE => exact ⟨_, rfl, .changeReg _ _⟩
  | .sraH => exact ⟨_, rfl, .changeReg _ _⟩
  | .sraL => exact ⟨_, rfl, .changeReg _ _⟩
  | .sraAtHl => exact ⟨_, rfl, .modifyHl _ _ _⟩
  | .sraA => exact ⟨_, rfl, .changeReg _ _⟩
  | .swapB => exact ⟨_, rfl, .changeReg _ _⟩
  | .swapC => exact ⟨_, rfl, .changeReg _ _⟩
  | .swapD => exact ⟨_, rfl, .changeReg _ _⟩
  | .swapE => exact ⟨_, rfl, .changeReg _ _⟩
  | .swapH => exact ⟨_, rfl, .changeReg _ _⟩
  | .swapL => exact ⟨_, rfl, .changeReg _ _⟩
  | .swapAtHl => exact ⟨_, rfl, .modifyHl _ _ _⟩
  | .swapA => exact ⟨_, rfl, .changeReg _ _⟩
  | .srlB => exact ⟨_, rfl, .changeReg _ _⟩
  | .srlC => exact ⟨_, rfl, .changeReg _ _⟩
  | .srlD => exact ⟨_, rfl, .changeReg _ _⟩
  | .srlE => exact ⟨_, rfl, .changeReg _ _⟩
  | .srlH => exact ⟨_, rfl, .changeReg _ _⟩
  | .srlL => exact ⟨_, rfl, .changeReg _ _⟩
  | .srlAtHl => exact ⟨_, rfl, .modifyHl _ _ _⟩
  | .srlA => exact ⟨_, rfl, .changeReg _ _⟩
  | .bit0B => exact ⟨_, rfl, .bitReg _ _⟩
  | .bit0C => exact ⟨_, rfl, .bitReg _ _⟩
  | .bit0D => exact ⟨_, rfl, .bitReg _ _⟩
  | .bit0E => exact ⟨_, rfl, .bitReg _ _⟩
  | .bit0H => exact ⟨_, rfl, .bitReg _ _⟩
  | .bit0L => exact ⟨_, rfl, .bitReg _ _⟩
  | .bit0AtHl => exact ⟨_, rfl, .bitHl _⟩
  | .bit0A => exact ⟨_, rfl, .bitReg _ _⟩
  | .bit1B => exact ⟨_, rfl, .bitReg _ _⟩
  | .bit1C => exact ⟨_, rfl, .bitReg _ _⟩
  | .bit1D => exact ⟨_, rfl, .bitReg _ _⟩
  | .bit1E => exact ⟨_, rfl, .bitReg _ _⟩
  | .bit1H => exact ⟨_, rfl, .bitReg _ _⟩
  | .bit1L => exact ⟨_, rfl, .bitReg _ _⟩
  | .bit1AtHl => exact ⟨_, rfl, .bitHl _⟩
  | .bit1A => exact ⟨_, rfl, .bitReg _ _⟩
  | .bit2B => exact ⟨_, rfl, .bitReg _ _⟩
  | .bit2C => exact ⟨_, rfl, .bitReg _ _⟩
  | .bit2D => exact ⟨_, rfl, .bitReg _ _⟩
  | .bit2E => exact ⟨_, rfl, .bitReg _ _⟩
  | .bit2H => exact ⟨_, rfl, .bitReg _ _⟩
  | .bit2L => exact ⟨_, rfl, .bitReg _ _⟩
  | .bit2AtHl => exact ⟨_, rfl, .bitHl _⟩
  | .bit2A => exact ⟨_, rfl, .bitReg _ _⟩
  | .bit3B => exact ⟨_, rfl, .bitReg _ _⟩
  | .bit3C => exact ⟨_, rfl, .bitReg _ _⟩
  | .bit3D => exact ⟨_, rfl, .bitReg _ _⟩
  | .bit3E => exact ⟨_, rfl, .bitReg _ _⟩
  | .bit3H => exact ⟨_, rfl, .bitReg _ _⟩
  | .bit3L => exact ⟨_, rfl, .bitReg _ _⟩
  | .bit3AtHl => exact ⟨_, rfl, .bitHl _⟩
  | .bit3A => exact ⟨_, rfl, .bitReg _ _⟩
  | .bit4B => exact ⟨_, rfl, .bitReg _ _⟩
  | .bit4C => exact ⟨_, rfl, .bitReg _ _⟩
  | .bit4D => exact ⟨_, rfl, .bitReg _ _⟩
  | .bit4E => exact ⟨_, rfl, .bitReg _ _⟩
  | .bit4H => exact ⟨_, rfl, .bitReg _ _⟩
  | .bit4L => exact ⟨_, rfl, .bitReg _ _⟩
  | .bit4AtHl => exact ⟨_, rfl, .bitHl _⟩
  | .bit4A => exact ⟨_, rfl, .bitReg _ _⟩
  | .bit5B => exact ⟨_, rfl, .bitReg _ _⟩
  | .bit5C => exact ⟨_, rfl, .bitReg _ _⟩
  | .bit5D => exact ⟨_, rfl, .bitReg _ _⟩
  | .bit5E => exact ⟨_, rfl, .bitReg _ _⟩
  | .bit5H => exact ⟨_, rfl, .bitReg _ _⟩
  | .bit5L => exact ⟨_, rfl, .bitReg _ _⟩
  | .bit5AtHl => exact ⟨_, rfl, .bitHl _⟩
  | .bit5A => exact ⟨_, rfl, .bitReg _ _⟩
  | .bit6B => exact ⟨_, rfl, .bitReg _ _⟩
  | .bit6C => exact ⟨_, rfl, .bitReg _ _⟩
  | .bit6D => exact ⟨_, rfl, .bitReg _ _⟩
  | .bit6E => exact ⟨_, rfl, .bitReg _ _⟩
  | .bit6H => exact ⟨_, rfl, .bitReg _ _⟩
  | .bit6L => exact ⟨_, rfl, .bitReg _ _⟩
  | .bit6AtHl => exact ⟨_, rfl, .bitHl _⟩
  | .bit6A => exact ⟨_, rfl, .bitReg _ _⟩
  | .bit7B => exact ⟨_, rfl, .bitReg _ _⟩
  | .bit7C => exact ⟨_, rfl, .bitReg _ _⟩
  | .bit7D => exact ⟨_, rfl, .bitReg _ _⟩
  | .bit7E => exact ⟨_, rfl, .bitReg _ _⟩
  | .bit7H => exact ⟨_, rfl, .bitReg _ _⟩
  | .bit7L => exact ⟨_, rfl, .bitReg _ _⟩
  | .bit7AtHl => exact ⟨_, rfl, .bitHl _⟩
  | .bit7A => exact ⟨_, rfl, .bitReg _ _⟩
  | .res0B => exact ⟨_, rfl, .changeReg _ _⟩
  | .res0C => exact ⟨_, rfl, .changeReg _ _⟩
  | .res0D => exact ⟨_, rfl, .changeReg _ _⟩
  | .res0E => exact ⟨_, rfl, .changeReg _ _⟩
  | .res0H => exact ⟨_, rfl, .changeReg _ _⟩
  | .res0L => exact ⟨_, rfl, .changeReg _ _⟩
  | .res0AtHl => exact ⟨_, rfl, .modifyHl _ _ _⟩
  | .res0A => exact ⟨_, rfl, .changeReg _ _⟩
  | .res1B => exact ⟨_, rfl, .changeReg _ _⟩
  | .res1C => exact ⟨_, rfl, .changeReg _ _⟩
  | .res1D => exact ⟨_, rfl, .changeReg _ _⟩
  | .res1E => exact ⟨_, rfl, .changeReg _ _⟩
  | .res1H => exact ⟨_, rfl, .changeReg _ _⟩
  | .res1L => exact ⟨_, rfl, .changeReg _ _⟩
  | .res1AtHl => exact ⟨_, rfl, .modifyHl _ _ _⟩
  | .res1A => exact ⟨_, rfl, .changeReg _ _⟩
  | .res2B => exact ⟨_, rfl, .changeReg _ _⟩
  | .res2C => exact ⟨_, rfl, .changeReg _ _⟩
  | .res2D => exact ⟨_, rfl, .changeReg _ _⟩
  | .res2E => exact ⟨_, rfl, .changeReg _ _⟩
  | .res2H => exact ⟨_, rfl, .changeReg _ _⟩
  | .res2L => exact ⟨_, rfl, .changeReg _ _⟩
  | .res2AtHl => exact ⟨_, rfl, .modifyHl _ _ _⟩
  | .res2A => exact ⟨_, rfl, .changeReg _ _⟩
  | .res3B => exact ⟨_, rfl, .changeReg _ _⟩
  | .res3C => exact ⟨_, rfl, .changeReg _ _⟩
  | .res3D => exact ⟨_, rfl, .changeReg _ _⟩
  | .res3E => exact ⟨_, rfl, .changeReg _ _⟩
  | .res3H => exact ⟨_, rfl, .changeReg _ _⟩
  | .res3L => exact ⟨_, rfl, .changeReg _ _⟩
  | .res3AtHl => exact ⟨_, rfl, .modifyHl _ _ _⟩
  | .res3A => exact ⟨_, rfl, .changeReg _ _⟩
  | .res4B => exact ⟨_, rfl, .changeReg _ _⟩
  | .res4C => exact ⟨_, rfl, .changeReg _ _⟩
  | .res4D => exact ⟨_, rfl, .changeReg _ _⟩
  | .res4E => exact ⟨_, rfl, .changeReg _ _⟩
  | .res4H => exact ⟨_, rfl, .changeReg _ _⟩
  | .res4L => exact ⟨_, rfl, .changeReg _ _⟩
  | .res4AtHl => exact ⟨_, rfl, .modifyHl _ _ _⟩
  | .res4A => exact ⟨_, rfl, .changeReg _ _⟩
  | .res5B => exact ⟨_, rfl, .changeReg _ _⟩
  | .res5C => exact ⟨_, rfl, .changeReg _ _⟩
  | .res5D => exact ⟨_, rfl, .changeReg _ _⟩
  | .res5E => exact ⟨_, rfl, .changeReg _ _⟩
  | .res5H => exact ⟨_, rfl, .changeReg _ _⟩
  | .res5L => exact ⟨_, rfl, .changeReg _ _⟩
  | .res5AtHl => exact ⟨_, rfl, .modifyHl _ _ _⟩
  | .res5A => exact ⟨_, rfl, .changeReg _ _⟩
  | .res6B => exact ⟨_, rfl, .changeReg _ _⟩
  | .res6C => exact ⟨_, rfl, .changeReg _ _⟩
  | .res6D => exact ⟨_, rfl, .changeReg _ _⟩
  | .res6E => exact ⟨_, rfl, .changeReg _ _⟩
  | .res6H => exact ⟨_, rfl, .changeReg _ _⟩
  | .res6L => exact ⟨_, rfl, .changeReg _ _⟩
  | .res6AtHl => exact ⟨_, rfl, .modifyHl _ _ _⟩
  | .res6A => exact ⟨_, rfl, .changeReg _ _⟩
  | .res7B => exact ⟨_, rfl, .changeReg _ _⟩
  | .res7C => exact ⟨_, rfl, .changeReg _ _⟩
  | .res7D => exact ⟨_, rfl, .changeReg _ _⟩
  | .res7E => exact ⟨_, rfl, .changeReg _ _⟩
  | .res7H => exact ⟨_, rfl, .changeReg _ _⟩
  | .res7L => exact ⟨_, rfl, .changeReg _ _⟩
  | .res7AtHl => exact ⟨_, rfl, .modifyHl _ _ _⟩
  | .res7A => exact ⟨_, rfl, .changeReg _ _⟩
  | .set0B => exact ⟨_, rfl, .changeReg _ _⟩
  | .set0C => exact ⟨_, rfl, .changeReg _ _⟩
  | .set0D => exact ⟨_, rfl, .changeReg _ _⟩
  | .set0E => exact ⟨_, rfl, .changeReg _ _⟩
  | .set0H => exact ⟨_, rfl, .changeReg _ _⟩
  | .set0L => exact ⟨_, rfl, .changeReg _ _⟩
  | .set0AtHl => exact ⟨_, rfl, .modifyHl _ _ _⟩
  | .set0A => exact ⟨_, rfl, .changeReg _ _⟩
  | .set1B => exact ⟨_, rfl, .changeReg _ _⟩
  | .set1C => exact ⟨_, rfl, .changeReg _ _⟩
  | .set1D => exact ⟨_, rfl, .changeReg _ _⟩
  | .set1E => exact ⟨_, rfl, .changeReg _ _⟩
  | .set1H => exact ⟨_, rfl, .changeReg _ _⟩
  | .set1L => exact ⟨_, rfl, .changeReg _ _⟩
  | .set1AtHl => exact ⟨_, rfl, .modifyHl _ _ _⟩
  | .set1A => exact ⟨_, rfl, .changeReg _ _⟩
  | .set2B => exact ⟨_, rfl, .changeReg _ _⟩
  | .set2C => exact ⟨_, rfl, .changeReg _ _⟩
  | .set2D => exact ⟨_, rfl, .changeReg _ _⟩
  | .set2E => exact ⟨_, rfl, .changeReg _ _⟩
  | .set2H => exact ⟨_, rfl, .changeReg _ _⟩
  | .set2L => exact ⟨_, rfl, .changeReg _ _⟩
  | .set2AtHl => exact ⟨_, rfl, .modifyHl _ _ _⟩
  | .set2A => exact ⟨_, rfl, .changeReg _ _⟩
  | .set3B => exact ⟨_, rfl, .changeReg _ _⟩
  | .set3C => exact ⟨_, rfl, .changeReg _ _⟩
  | .set3D => exact ⟨_, rfl, .changeReg _ _⟩
  | .set3E => exact ⟨_, rfl, .changeReg _ _⟩
  | .set3H => exact ⟨_, rfl, .changeReg _ _⟩
  | .set3L => exact ⟨_, rfl, .changeReg _ _⟩
  | .set3AtHl => exact ⟨_, rfl, .modifyHl _ _ _⟩
  | .set3A => exact ⟨_, rfl, .changeReg _ _⟩
  | .set4B => exact ⟨_, rfl, .changeReg _ _⟩
  | .set4C => exact ⟨_, rfl, .changeReg _ _⟩
  | .set4D => exact ⟨_, rfl, .changeReg _ _⟩
  | .set4E => exact ⟨_, rfl, .changeReg _ _⟩
  | .set4H => exact ⟨_, rfl, .changeReg _ _⟩
  | .set4L => exact ⟨_, rfl, .changeReg _ _⟩
  | .set4AtHl => exact ⟨_, rfl, .modifyHl _ _ _⟩
  | .set4A => exact ⟨_, rfl, .changeReg _ _⟩
  | .set5B => exact ⟨_, rfl, .changeReg _ _⟩
  | .set5C => exact ⟨_, rfl, .changeReg _ _⟩
  | .set5D => exact ⟨_, rfl, .changeReg _ _⟩
  | .set5E => exact ⟨_, rfl, .changeReg _ _⟩
  | .set5H => exact ⟨_, rfl, .changeReg _ _⟩
  | .set5L => exact ⟨_, rfl, .changeReg _ _⟩
  | .set5AtHl => exact ⟨_, rfl, .modifyHl _ _ _⟩
  | .set5A => exact ⟨_, rfl, .changeReg _ _⟩
  | .set6B => exact ⟨_, rfl, .changeReg _ _⟩
  | .set6C => exact ⟨_, rfl, .changeReg _ _⟩
  | .set6D => exact ⟨_, rfl, .changeReg _ _⟩
  | .set6E => exact ⟨_, rfl, .changeReg _ _⟩
  | .set6H => exact ⟨_, rfl, .changeReg _ _⟩
  | .set6L => exact ⟨_, rfl, .changeReg _ _⟩
  | .set6AtHl => exact ⟨_, rfl, .modifyHl _ _ _⟩
  | .set6A => exact ⟨_, rfl, .changeReg _ _⟩
  | .set7B => exact ⟨_, rfl, .changeReg _ _⟩
  | .set7C => exact ⟨_, rfl, .changeReg _ _⟩
  | .set7D => exact ⟨_, rfl, .changeReg _ _⟩
  | .set7E => exact ⟨_, rfl, .changeReg _ _⟩
  | .set7H => exact ⟨_, rfl, .changeReg _ _⟩
  | .set7L => exact ⟨_, rfl, .changeReg _ _⟩
  | .set7AtHl => exact ⟨_, rfl, .modifyHl _ _ _⟩
  | .set7A => exact ⟨_, rfl, .changeReg _ _⟩
  | .illegalD3 => exact ⟨_, rfl, .raiseFatal _ (by decide)⟩
  | .illegalDB => exact ⟨_, rfl, .raiseFatal _ (by decide)⟩
  | .illegalDD => exact ⟨_, rfl, .raiseFatal _ (by decide)⟩
  | .illegalE3 => exact ⟨_, rfl, .raiseFatal _ (by decide)⟩
  | .illegalE4 => exact ⟨_, rfl, .raiseFatal _ (by decide)⟩
  | .illegalEB => exact ⟨_, rfl, .raiseFatal _ (by decide)⟩
  | .illegalEC => exact ⟨_, rfl, .raiseFatal _ (by decide)⟩
  | .illegalED => exact ⟨_, rfl, .raiseFatal _ (by decide)⟩
  | .illegalF4 => exact ⟨_, rfl, .raiseFatal _ (by decide)⟩
  | .illegalFC => exact ⟨_, rfl, .raiseFatal _ (by decide)⟩
  | .illegalFD => exact ⟨_, rfl, .raiseFatal _ (by decide)⟩

theorem Keeps.mapRegs {s t : State} (h : Keeps s t) (u : Regs → Regs) : Keeps s (t.mapRegs u) := h.then_eq rfl rfl rfl rfl

theorem Keeps.setFlags {s t : State} (h : Keeps s t) (f : Flags) : Keeps s (t.setFlags f) := h.then_eq rfl rfl rfl rfl

theorem Keeps.jump {s t : State} (h : Keeps s t) (v : Word) (n : Nat) : Keeps s (t.jump v n) := h.then_eq rfl rfl rfl rfl

theorem Keeps.finish {s t : State} (h : Keeps s t) (len n : Nat) : Keeps s (t.finish len n) := h.jump _ n

theorem Keeps.callTo (s : State) (v : Word) (len n : Nat) : Keeps s (callTo v len n s) := (Keeps.push s (s.nextPc len)).jump v n

theorem Keeps.returnTo (s : State) (n : Nat) : Keeps s (returnTo n s) := (Keeps.pop s).jump s.popValue n

/-- No instruction changes the PPU, the buttons, a parameter or ROM, and every one keeps memory's canonical form. -/
theorem runs_keeps {s t : State} (h : Runs s t) : Keeps s t := by
  cases h with
  | ldReg | ldImm | ldPair | ldSpHl | ldHlSp | aluReg | aluImm | incReg | decReg | daa | cpl | scf | ccf | addHl | stepPair | addSp
  | rotateA | changeReg | bitReg | jump | finish | disableInterrupts | raiseFatal => exact Keeps.of_eq rfl rfl rfl rfl
  | ldFromHl => exact ((Keeps.read s s.hl).mapRegs _).finish _ _
  | aluHl => exact ((Keeps.read s s.hl).mapRegs _).finish _ _
  | bitHl => exact ((Keeps.read s s.hl).setFlags _).finish _ _
  | loadA a => exact ((Keeps.read s a).mapRegs _).finish _ _
  | loadAStep => exact ((Keeps.read s s.hl).mapRegs _).finish _ _
  | ldToHl r => exact (Keeps.write s s.hl _).finish _ _
  | ldHlImm n => exact (Keeps.write s s.hl n).finish _ _
  | storeA a => exact (Keeps.write s a _).finish _ _
  | storeAStep => exact ((Keeps.write s s.hl _).mapRegs _).finish _ _
  | storeSp a => exact ((Keeps.write s a _).trans (Keeps.write _ (a + 1#16) _)).finish _ _
  | push p => exact (Keeps.push s _).finish _ _
  | callTo v len n => exact Keeps.callTo s v len n
  | pop => exact ((Keeps.pop s).mapRegs _).finish _ _
  | returnTo n => exact Keeps.returnTo s n
  | returnFromInterrupt => exact (Keeps.pop s).then_eq rfl rfl rfl rfl
  | modifyHl u => exact (((Keeps.read s s.hl).trans (Keeps.write _ s.hl _)).setFlags _).finish _ _
  | jpCond => unfold jpCond; split <;> exact Keeps.of_eq rfl rfl rfl rfl
  | jrCond => unfold jrCond; split <;> exact Keeps.of_eq rfl rfl rfl rfl
  | callCond cc v =>
    unfold callCond
    split
    · exact Keeps.callTo s v 3 24
    · exact Keeps.of_eq rfl rfl rfl rfl
  | retCond cc =>
    unfold retCond
    split
    · exact Keeps.returnTo s 20
    · exact Keeps.of_eq rfl rfl rfl rfl
  | halt => unfold halt; split <;> exact Keeps.of_eq rfl rfl rfl rfl
  | enableInterrupts =>
    unfold enableInterrupts
    split
    · exact Keeps.of_eq (by simp) (by simp) (by simp) (by simp)
    · split <;> exact Keeps.of_eq (by simp) (by simp) (by simp) (by simp)

/-- What an instruction does to the CPU's control state: nothing, a halt, the masking of interrupts, their enabling at once or
after a delay, or a fatal stop at PC (46_control.md R361, 47_cpu_control.md R371 to R377). -/
inductive CtlChange (s : State) : State → Prop
  | same {t : State} (h : t.ctl = s.ctl) (o : t.out ≠ none) : CtlChange s t
  | halt {t : State} (h : t.ctl = { s.ctl with halted := true }) (o : t.out ≠ none) : CtlChange s t
  | mask {t : State} (h : t.ctl = { s.ctl with ime := false, imeDelay := 0 }) (o : t.out ≠ none) : CtlChange s t
  | unmask {t : State} (h : t.ctl = { s.ctl with ime := true, imeDelay := 0 }) (o : t.out ≠ none) : CtlChange s t
  | enable {t : State} (h : t.ctl = { s.ctl with ime := true }) (o : t.out ≠ none) : CtlChange s t
  | delay {t : State} (h : t.ctl = { s.ctl with imeDelay := 2 }) (hi : s.ctl.ime = false) (o : t.out ≠ none) : CtlChange s t
  | fatal (op : BitVec 16) (h : op ∈ neverImplemented) : CtlChange s (s.raiseFatal op)

theorem runs_ctl {s t : State} (h : Runs s t) : CtlChange s t := by
  cases h with
  | ldReg | ldImm | ldPair | ldSpHl | ldHlSp | aluReg | aluImm | incReg | decReg | daa | cpl | scf | ccf | addHl | stepPair | addSp
  | rotateA | changeReg | bitReg | jump | finish => exact .same rfl (by simp [ldReg, ldImm, ldPair, ldSpHl, ldHlSp, aluReg, aluImm, aluWith, incReg, decReg, daa, cpl, scf, ccf, addHl, stepPair, addSp, rotateA, changeReg, bitReg])
  | ldFromHl => exact .same (by simp [ldFromHl]) (by simp [ldFromHl])
  | aluHl => exact .same (by simp [aluHl, aluWith]) (by simp [aluHl, aluWith])
  | bitHl => exact .same (by simp [bitHl]) (by simp [bitHl])
  | loadA => exact .same (by simp [loadA]) (by simp [loadA])
  | loadAStep => exact .same (by simp [loadAStep]) (by simp [loadAStep])
  | ldToHl => exact .same (by simp [ldToHl]) (by simp [ldToHl])
  | ldHlImm => exact .same (by simp [ldHlImm]) (by simp [ldHlImm])
  | storeA => exact .same (by simp [storeA]) (by simp [storeA])
  | storeAStep => exact .same (by simp [storeAStep]) (by simp [storeAStep])
  | storeSp => exact .same (by simp [storeSp]) (by simp [storeSp])
  | push => exact .same (by simp [push]) (by simp [push])
  | pop => exact .same (by simp [pop]) (by simp [pop])
  | callTo => exact .same (by simp [callTo]) (by simp [callTo])
  | returnTo => exact .same (by simp [returnTo]) (by simp [returnTo])
  | modifyHl => exact .same (by simp [modifyHl]) (by simp [modifyHl])
  | jpCond => unfold jpCond; split <;> exact .same (by simp) (by simp)
  | jrCond => unfold jrCond; split <;> exact .same (by simp) (by simp)
  | callCond => unfold callCond; split <;> exact .same (by simp [callTo]) (by simp [callTo])
  | retCond => unfold retCond; split <;> exact .same (by simp [returnTo]) (by simp [returnTo])
  | returnFromInterrupt => exact .unmask (by simp [State.returnFromInterrupt]) (by simp [State.returnFromInterrupt])
  | disableInterrupts => exact .mask rfl (by simp [disableInterrupts])
  | halt =>
    unfold halt
    split
    · exact .halt rfl (by simp)
    · exact .same rfl (by simp)
  | enableInterrupts =>
    unfold enableInterrupts
    split
    · exact .enable rfl (by simp)
    · split
      · rename_i hc
        simp only [Bool.and_eq_true, Bool.not_eq_true'] at hc
        exact .delay rfl hc.1 (by simp)
      · exact .same rfl (by simp)
  | raiseFatal op h => exact .fatal op h

end Sys2Proof.Machine
end

