-- ==== Sys2Proof/Laws/Operations.lean ====
section
/-! SUPPORT. For each operation the meanings share, one lemma that says everything it does, in the terms of Safety.lean. -/
namespace Sys2Proof.Machine

/-! ### Registers kept -/

theorem regsKept_nil {s t : State} (h : t.regs = { s.regs with pc := t.regs.pc }) : RegsKept [] s t := by
  refine ⟨fun q _ => ?_, by rw [h], by rw [h]⟩
  rw [h]
  cases q <;> rfl

theorem regsKept_set8 {s t : State} (r : Reg8) (v : Byte) (h : t.regs = { s.regs.set8 r v with pc := t.regs.pc }) :
    RegsKept [r] s t := by
  refine ⟨fun q hq => ?_, by rw [h]; cases r <;> rfl, by rw [h]; cases r <;> rfl⟩
  rw [h, ← get8_set8_ne s.regs v (by simpa using hq : q ≠ r)]
  cases q <;> rfl

theorem regsKeptButF_nil {s t : State} (h : t.regs = { s.regs with f := t.regs.f, pc := t.regs.pc }) : RegsKeptButF [] s t := by
  refine ⟨fun q _ => ?_, by rw [h]⟩
  rw [h]
  cases q <;> rfl

theorem regsKeptButF_set8 {s t : State} (r : Reg8) (v : Byte)
    (h : t.regs = { s.regs.set8 r v with f := t.regs.f, pc := t.regs.pc }) : RegsKeptButF [r] s t := by
  refine ⟨fun q hq => ?_, by rw [h]; cases r <;> rfl⟩
  rw [h, ← get8_set8_ne s.regs v (by simpa using hq : q ≠ r)]
  cases q <;> rfl

theorem regsKeptButF_hl {s t : State} (v : Word) (h : t.regs = { s.regs.setPair .hl v with f := t.regs.f, pc := t.regs.pc }) :
    RegsKeptButF [.h, .l] s t := by
  refine ⟨fun q hq => ?_, by rw [h]; rfl⟩
  rw [h]
  cases q <;> first | rfl | exact absurd hq (by decide)

theorem regsKeptButSp_setPair {s t : State} (p : Pair) (v : Word) (h : t.regs = { s.regs.setPair p v with pc := t.regs.pc }) :
    RegsKeptButSp p.halves s t ∧ (p ≠ .sp → t.regs.sp = s.regs.sp) := by
  refine ⟨⟨fun q hq => ?_, by rw [h]; cases p <;> rfl⟩, fun hp => ?_⟩
  · rw [h]
    cases p <;> cases q <;> first | rfl | exact absurd hq (by decide)
  · rw [h]
    cases p <;> first | rfl | exact absurd rfl hp

/-! ### The end of an instruction -/

theorem finish_ends {s t : State} (h : t.regs.pc = s.regs.pc) (len n : Nat) : Ends (t.finish len n) (s.regs.pc + BitVec.ofNat 16 len) n :=
  ⟨by simp [h], rfl⟩

theorem jump_ends (s : State) (v : Word) (n : Nat) : Ends (s.jump v n) v n := ⟨rfl, rfl⟩

theorem jump_world (s : State) (v : Word) (n : Nat) : SameWorld s (s.jump v n) := ⟨rfl, rfl, rfl, rfl, rfl, rfl, rfl, rfl⟩

/-- `CC[c]` looks at Z and C alone (30_encoding.md R138). -/
theorem holds_eq_test (f : Flags) (cc : Cond) : f.holds cc = cc.test f.z f.c := by cases cc <;> rfl

/-! ### The shared meanings -/

/-- The load of A from memory (40_load8.md R205, R206, R213, R215, R217). -/
theorem loadA_effect (a : Word) (len n : Nat) (s : State) :
    (loadA a len n s).regs.a = s.readByte a ∧ RegsKept [.a] s (loadA a len n s) ∧ ReadEffect s (loadA a len n s) a ∧
      Ends (loadA a len n s) (s.regs.pc + BitVec.ofNat 16 len) n := by
  refine ⟨rfl, ?_, ?_, ?_⟩
  · exact regsKept_set8 .a (s.readByte a) (by simp [loadA, Regs.set8])
  · exact SameWorld.readEffect (t := s.afterRead a) ⟨rfl, rfl, rfl, rfl, rfl, rfl, rfl, rfl⟩ (afterRead_effect s a)
  · exact finish_ends (by simp) _ _

/-- The store of A (R207, R208, R214, R216, R218). -/
theorem storeA_effect {s : State} (hw : s.mem.wf = true) (a : Word) (len n : Nat) :
    StoreEffect s (storeA a len n s) a s.regs.a ∧ RegsKept [] s (storeA a len n s) ∧ Ends (storeA a len n s) (s.regs.pc + BitVec.ofNat 16 len) n := by
  refine ⟨?_, ?_, ?_⟩
  · exact SameWorld.storeEffect (t := s.writeByte a s.regs.a) ⟨rfl, rfl, rfl, rfl, rfl, rfl, rfl, rfl⟩ (writeByte_effect hw _ _)
  · exact regsKept_nil (by simp [storeA])
  · exact finish_ends (by simp) _ _

/-- The operation on A with an operand already read (42_alu8.md R251 to R274). -/
theorem aluWith_effect (op : AluOp) (v : Byte) (len n : Nat) (s : State) :
    (aluWith op v len n s).regs.a = (alu8 op s.regs.a v s.regs.f.c).value ∧
      (aluWith op v len n s).regs.f = (alu8 op s.regs.a v s.regs.f.c).flags ∧ RegsKeptButF [.a] s (aluWith op v len n s) ∧
      OnlyRegs s (aluWith op v len n s) ∧ Ends (aluWith op v len n s) (s.regs.pc + BitVec.ofNat 16 len) n :=
  ⟨rfl, rfl, regsKeptButF_set8 .a (alu8 op s.regs.a v s.regs.f.c).value rfl,
    SameWorld.onlyRegs ⟨rfl, rfl, rfl, rfl, rfl, rfl, rfl, rfl⟩, finish_ends rfl _ _⟩

/-- The change of a register by a prefixed instruction (44_rotate_shift.md R314, 45_bit.md R342, R344). -/
theorem changeReg_effect (u : Byte → Flags → AluResult) (r : Reg8) (s : State) :
    (changeReg u r s).regs.get8 r = (u (s.regs.get8 r) s.regs.f).value ∧
      (changeReg u r s).regs.f = (u (s.regs.get8 r) s.regs.f).flags ∧ RegsKeptButF [r] s (changeReg u r s) ∧
      OnlyRegs s (changeReg u r s) ∧ Ends (changeReg u r s) (s.regs.pc + 2#16) 8 := by
  refine ⟨?_, rfl, regsKeptButF_set8 r (u (s.regs.get8 r) s.regs.f).value rfl,
    SameWorld.onlyRegs ⟨rfl, rfl, rfl, rfl, rfl, rfl, rfl, rfl⟩, finish_ends ?_ _ _⟩ <;> cases r <;> rfl

/-- The read-modify-write of the byte at HL (20_memory.md R97). -/
theorem modifyHl_effect {s : State} (hw : s.mem.wf = true) (u : Byte → Flags → AluResult) (len n : Nat) :
    ModifyEffect s (modifyHl u len n s) (u (s.readByte s.hl) s.regs.f).value ∧
      (modifyHl u len n s).regs.f = (u (s.readByte s.hl) s.regs.f).flags ∧ RegsKeptButF [] s (modifyHl u len n s) ∧
      Ends (modifyHl u len n s) (s.regs.pc + BitVec.ofNat 16 len) n := by
  refine ⟨⟨afterRead_effect s s.hl, ?_⟩, ?_, ?_, ?_⟩
  · exact SameWorld.storeEffect (t := (s.afterRead s.hl).writeByte s.hl (u (s.readByte s.hl) s.regs.f).value)
      ⟨rfl, rfl, rfl, rfl, rfl, rfl, rfl, rfl⟩ (writeByte_effect (by simpa using hw) _ _)
  · simp [modifyHl]
  · exact regsKeptButF_nil (by simp [modifyHl])
  · exact finish_ends (by simp) _ _

/-- A push followed by a change of PC and the step's output keeps the push's effect (00_scope.md R16). -/
theorem pushEffect_jump {s : State} (hw : s.mem.wf = true) (w v : Word) (n : Nat) : PushEffect s ((s.push16 w).jump v n) w := by
  obtain ⟨⟨h1, h2⟩, h3, h4, h5⟩ := push16_effect hw w
  refine ⟨⟨h1, SameWorld.storeEffect (jump_world _ _ _) h2⟩, h3, fun r hr => ?_, h5⟩
  rw [← h4 r hr]
  cases r <;> rfl

/-- `Push16(next); PC <- v` (46_control.md R356, R362). -/
theorem callTo_effect {s : State} (hw : s.mem.wf = true) (v : Word) (len n : Nat) :
    PushEffect s (callTo v len n s) (s.regs.pc + BitVec.ofNat 16 len) ∧ Ends (callTo v len n s) v n :=
  ⟨pushEffect_jump hw _ _ _, jump_ends _ _ _⟩

/-- `PC <- Pop16()` (R358). -/
theorem returnTo_effect (s : State) (n : Nat) :
    PopEffect s (returnTo n s) ∧ RegsKeptButSp [] s (returnTo n s) ∧ Ends (returnTo n s) (popped s) n := by
  obtain ⟨h1, h2, h3⟩ := afterPop_effect s
  refine ⟨⟨h1, SameWorld.readEffect (jump_world _ _ _) h2, h3⟩, ⟨fun r _ => ?_, by simp [returnTo]⟩, rfl, rfl⟩
  simp only [returnTo, jump_regs, afterPop_regs]
  cases r <;> rfl

end Sys2Proof.Machine
end

