-- ==== Sys2Proof/Laws/Ppu.lean ====
section
/-! SUPPORT. The laws of the PPU: what one tick can do, that it keeps the PPU consistent, and the sizes of what it renders. -/
namespace Sys2Proof.Machine

/-! ### What a tick leaves alone -/

/-- What the PPU never changes: every unit but itself and IF. -/
structure TickKeeps (s t : State) : Prop where
  regs    : t.regs = s.regs
  ctl     : t.ctl = s.ctl
  ie      : t.irq.ie = s.irq.ie
  io      : t.io = s.io
  mem     : t.mem = s.mem
  buttons : t.buttons = s.buttons
  params  : t.params = s.params
  out     : t.out = s.out
  ext     : t.ext = s.ext

theorem TickKeeps.refl (s : State) : TickKeeps s s := ⟨rfl, rfl, rfl, rfl, rfl, rfl, rfl, rfl, rfl⟩

theorem TickKeeps.trans {s t u : State} (h : TickKeeps s t) (h' : TickKeeps t u) : TickKeeps s u :=
  ⟨h'.regs.trans h.regs, h'.ctl.trans h.ctl, h'.ie.trans h.ie, h'.io.trans h.io, h'.mem.trans h.mem,
    h'.buttons.trans h.buttons, h'.params.trans h.params, h'.out.trans h.out, h'.ext.trans h.ext⟩

theorem lineEvents_keeps (s : State) : TickKeeps s s.lineEvents := by
  unfold State.lineEvents
  split
  · split
    · exact ⟨rfl, rfl, rfl, rfl, rfl, rfl, rfl, rfl, rfl⟩
    · split <;> exact ⟨rfl, rfl, rfl, rfl, rfl, rfl, rfl, rfl, rfl⟩
  · exact TickKeeps.refl s

theorem endLine_keeps (s : State) : TickKeeps s s.endLine.1 := by
  unfold State.endLine
  simp only []
  repeat' split
  all_goals exact ⟨rfl, rfl, rfl, rfl, rfl, rfl, rfl, rfl, rfl⟩

/-- A tick leaves alone what the PPU never changes (60_exceptions.md R443). -/
theorem ppuTick_keeps (s : State) : TickKeeps s s.ppuTick.1 := by
  have h0 : TickKeeps s { s with ppu := { s.ppu with dot := s.ppu.dot + 1 } } := ⟨rfl, rfl, rfl, rfl, rfl, rfl, rfl, rfl, rfl⟩
  have h1 := h0.trans (lineEvents_keeps _)
  unfold State.ppuTick
  simp only []
  split
  · exact h1.trans (endLine_keeps _)
  · exact h1

/-- So does an advance, of any length (R440). -/
theorem advancePpu_keeps (n : Nat) (s : State) : TickKeeps s (advancePpu n s).1 := by
  induction n generalizing s with
  | zero => exact TickKeeps.refl s
  | succ n ih => exact (ppuTick_keeps s).trans (ih _)

/-! ### An advance is its ticks -/

/-- The first of `n + 1` ticks may be taken apart as well as the last. -/
theorem ticks_first (s : State) (n : Nat) : s.ticks (n + 1) = s.ppuTick.1.ticks n := by
  induction n with
  | zero => rfl
  | succ n ih => exact congrArg (fun t : State => t.ppuTick.1) ih

/-- The scanline state machine does not look at the outside world or at the step's output (R485): a tick of two machines that
differ there alone does the same. -/
theorem ppuTick_withWorld (s : State) (x : External) (o : Option StepOut) :
    State.ppuTick { s with ext := x, out := o } = ({ s.ppuTick.1 with ext := x, out := o }, s.ppuTick.2) := by
  have he : ∀ w : State, State.lineEvents { w with ext := x, out := o } = { w.lineEvents with ext := x, out := o } := by
    intro w
    unfold State.lineEvents
    simp only []
    repeat' split
    all_goals rfl
  have hl : ∀ w : State, State.endLine { w with ext := x, out := o } = ({ w.endLine.1 with ext := x, out := o }, w.endLine.2) := by
    intro w
    unfold State.endLine
    simp only []
    repeat' split
    all_goals rfl
  have h := he { s with ppu := { s.ppu with dot := s.ppu.dot + 1 } }
  unfold State.ppuTick
  simp only [] at h ⊢
  rw [h]
  simp only [hl]
  split <;> rfl

/-- Nor does an advance (R440, R485). -/
theorem advancePpu_withWorld (n : Nat) (s : State) (x : External) (o : Option StepOut) :
    advancePpu n { s with ext := x, out := o } = ({ (advancePpu n s).1 with ext := x, out := o }, (advancePpu n s).2) := by
  induction n generalizing s with
  | zero => rfl
  | succ n ih =>
    unfold advancePpu
    simp only [ppuTick_withWorld, ih]

/-! ### The place in the frame -/

theorem lineEvents_place (s : State) : s.lineEvents.ppu.ly = s.ppu.ly ∧ s.lineEvents.ppu.dot = s.ppu.dot := by
  unfold State.lineEvents
  repeat' split
  all_goals exact ⟨rfl, rfl⟩

/-- A tick moves the PPU one cycle on in the frame of 70224, and it enters vertical blank where it reaches cycle 65664
(R442, R443, R444). -/
theorem ppuTick_position {s : State} (hl : s.ppu.ly < 154) (hd : s.ppu.dot < 456) :
    s.ppuTick.1.ppu.ly < 154 ∧ s.ppuTick.1.ppu.dot < 456 ∧
      s.ppuTick.1.ppu.position = (s.ppu.position + 1) % 70224 ∧
      (s.ppuTick.2 = true ↔ s.ppu.position + 1 = 65664) := by
  have hp := lineEvents_place { s with ppu := { s.ppu with dot := s.ppu.dot + 1 } }
  simp only [] at hp
  unfold State.ppuTick
  simp only []
  split
  · rename_i h456
    unfold State.endLine
    simp only [hp.1]
    repeat' split
    all_goals simp only [Ppu.position, requestInterrupt_ppu]
    all_goals rw [hp.2] at h456
    all_goals refine ⟨by omega, by omega, by omega, ?_⟩
    all_goals simp
    all_goals omega
  · rename_i h456
    rw [hp.2] at h456
    simp only [Ppu.position, hp.1, hp.2]
    refine ⟨by omega, by omega, by omega, ?_⟩
    simp
    omega

/-- IF changes only where vertical blank is entered, where bit 0 is set (R405, R444). -/
theorem ppuTick_flags (s : State) :
    s.ppuTick.1.irq.flags = if s.ppuTick.2 then s.irq.flags ||| 1#5 else s.irq.flags := by
  have h0 : (State.lineEvents { s with ppu := { s.ppu with dot := s.ppu.dot + 1 } }).irq = s.irq := by
    unfold State.lineEvents
    repeat' split
    all_goals rfl
  unfold State.ppuTick
  simp only []
  split
  · unfold State.endLine
    simp only []
    repeat' split
    all_goals simp_all
  · simp [h0]

/-! ### Rendering -/

theorem drawPixel_length (s : State) (ly k : Nat) (line : List Shade) (p : Nat) :
    (s.drawPixel ly k line p).length = line.length := by
  unfold State.drawPixel
  simp only []
  split <;> simp

theorem foldl_length {α β : Type} (f : List β → α → List β) (h : ∀ l a, (f l a).length = l.length) (l : List β) (as : List α) :
    (as.foldl f l).length = l.length := by
  induction as generalizing l with
  | nil => rfl
  | cons a as ih => rw [List.foldl_cons, ih, h]

theorem drawSprite_length (s : State) (ly : Nat) (line : List Shade) (k : Nat) :
    (s.drawSprite ly line k).length = line.length := by
  unfold State.drawSprite
  split
  · exact foldl_length _ (drawPixel_length s ly k) line _
  · rfl

/-- A rendered line has 160 pixels (10_state.md R52). -/
theorem lineShades_length (s : State) (ly : Nat) : (s.lineShades ly).length = 160 := by
  unfold State.lineShades
  split
  · simp only []
    split
    · rw [foldl_length _ (drawSprite_length s ly)]; simp
    · simp
  · simp

theorem fb_set_wf {fb : FrameBuffer} (h : fb.wf = true) (ly : Nat) {row : List Shade} (hr : row.length = 160) :
    FrameBuffer.wf (fb.set ly row) = true := by
  simp only [FrameBuffer.wf, Bool.and_eq_true, decide_eq_true_eq, List.all_eq_true] at h ⊢
  refine ⟨by simpa using h.1, fun r hm => ?_⟩
  rcases List.mem_or_eq_of_mem_set hm with h' | rfl
  · exact h.2 r h'
  · exact hr

/-! ### The PPU stays consistent -/

theorem mode3Length_constant {s : State} {n : Nat} (h : s.params.mode3 = .constant n) : s.mode3Length = n := by
  unfold State.mode3Length
  rw [h]

theorem mode3Length_dependent {s : State} (h : s.params.mode3 = .dependent) : 1 ≤ s.mode3Length ∧ s.mode3Length ≤ 375 := by
  unfold State.mode3Length
  rw [h]
  simp only []
  omega

/-- Every length is in 1..375 (R441). -/
theorem mode3Length_range {s : State} (h : s.params.wf = true) : 1 ≤ s.mode3Length ∧ s.mode3Length ≤ 375 := by
  unfold Params.wf at h
  split at h
  · rename_i hm
    rw [mode3Length_constant hm]
    exact of_decide_eq_true h
  · rename_i hm
    exact mode3Length_dependent hm

/-- The state with the dot counter advanced, where a tick begins. -/
theorem ppuTick_mid {s : State} (h : s.ppu.dot + 1 ≠ 456) :
    s.ppuTick = (State.lineEvents { s with ppu := { s.ppu with dot := s.ppu.dot + 1 } }, false) := by
  have hp := (lineEvents_place { s with ppu := { s.ppu with dot := s.ppu.dot + 1 } }).2
  unfold State.ppuTick
  simp only []
  rw [if_neg (by rw [hp]; exact h)]

theorem ppuTick_end {s : State} (h : s.ppu.dot + 1 = 456) (h3 : s.ppu.mode3Len ≤ 375) :
    s.ppuTick = State.endLine { s with ppu := { s.ppu with dot := s.ppu.dot + 1 } } := by
  have he : State.lineEvents { s with ppu := { s.ppu with dot := s.ppu.dot + 1 } } =
      { s with ppu := { s.ppu with dot := s.ppu.dot + 1 } } := by
    unfold State.lineEvents
    simp only []
    split
    · rw [if_neg (by omega), if_neg (by omega)]
    · rfl
  unfold State.ppuTick
  simp only []
  rw [he, if_pos h]

theorem ppu_wf_iff (p : Ppu) : p.wf = true ↔
    p.ly < 154 ∧ p.dot < 456 ∧ (1 ≤ p.mode3Len ∧ p.mode3Len ≤ 375) ∧ p.mode = modeAt p.ly p.dot p.mode3Len ∧ p.fb.wf = true := by
  simp only [Ppu.wf, Bool.and_eq_true, decide_eq_true_eq]
  exact ⟨fun h => ⟨h.1.1.1.1, h.1.1.1.2, h.1.1.2, h.1.2, h.2⟩, fun h => ⟨⟨⟨⟨h.1, h.2.1⟩, h.2.2.1⟩, h.2.2.2.1⟩, h.2.2.2.2⟩⟩

theorem modeAt_vblank {ly dot m : Nat} (h : 144 ≤ ly) : modeAt ly dot m = .vblank := by rw [modeAt, if_pos h]

theorem modeAt_oamScan {ly dot m : Nat} (h : ly < 144) (hd : dot < 80) : modeAt ly dot m = .oamScan := by
  rw [modeAt, if_neg (by omega), if_pos hd]

theorem modeAt_transfer {ly dot m : Nat} (h : ly < 144) (hd : 80 ≤ dot) (hm : dot < 80 + m) : modeAt ly dot m = .transfer := by
  rw [modeAt, if_neg (by omega), if_neg (by omega), if_pos hm]

theorem modeAt_hblank {ly dot m : Nat} (h : ly < 144) (hd : 80 + m ≤ dot) : modeAt ly dot m = .hblank := by
  rw [modeAt, if_neg (by omega), if_neg (by omega), if_neg (by omega)]

/-- The end of a line keeps the PPU consistent. -/
theorem endLine_wf {s : State} (hly : s.ppu.ly < 154) (h3 : 1 ≤ s.ppu.mode3Len ∧ s.ppu.mode3Len ≤ 375)
    (hfb : s.ppu.fb.wf = true) (hm : 144 ≤ s.ppu.ly → s.ppu.mode = .vblank) : s.endLine.1.ppu.wf = true := by
  unfold State.endLine
  simp only []
  split
  · rw [ppu_wf_iff]
    exact ⟨show s.ppu.ly + 1 < 154 by omega, Nat.zero_lt_succ _, h3,
      (modeAt_vblank (show 144 ≤ s.ppu.ly + 1 by omega)).symm, hfb⟩
  · split
    · rw [ppu_wf_iff]
      exact ⟨Nat.zero_lt_succ _, Nat.zero_lt_succ _, h3, (modeAt_oamScan (Nat.zero_lt_succ _) (Nat.zero_lt_succ _)).symm, hfb⟩
    · split
      · rename_i h
        rw [ppu_wf_iff]
        exact ⟨show s.ppu.ly + 1 < 154 by omega, Nat.zero_lt_succ _, h3, (modeAt_oamScan h (Nat.zero_lt_succ _)).symm, hfb⟩
      · rw [ppu_wf_iff]
        exact ⟨show s.ppu.ly + 1 < 154 by omega, Nat.zero_lt_succ _, h3,
          (hm (by omega)).trans (modeAt_vblank (show 144 ≤ s.ppu.ly + 1 by omega)).symm, hfb⟩

/-- The mode changes inside a line keep the PPU consistent. -/
theorem lineEvents_wf {s : State} (hq : s.params.wf = true) (hly : s.ppu.ly < 154) (hd : s.ppu.dot < 456)
    (h3 : 1 ≤ s.ppu.mode3Len ∧ s.ppu.mode3Len ≤ 375) (hfb : s.ppu.fb.wf = true) (h0 : 0 < s.ppu.dot)
    (hm : s.ppu.mode = modeAt s.ppu.ly (s.ppu.dot - 1) s.ppu.mode3Len) : s.lineEvents.ppu.wf = true := by
  have hm3 := mode3Length_range hq
  rw [ppu_wf_iff]
  unfold State.lineEvents
  split
  · rename_i h144
    split
    · rename_i h80
      exact ⟨hly, hd, hm3, (modeAt_transfer h144 (Nat.le_of_eq h80.symm) (show s.ppu.dot < 80 + s.mode3Length by omega)).symm, hfb⟩
    · split
      · rename_i hend
        exact ⟨hly, hd, h3, (modeAt_hblank h144 (Nat.le_of_eq hend.symm)).symm, fb_set_wf hfb _ (lineShades_length _ _)⟩
      · refine ⟨hly, hd, h3, hm.trans ?_, hfb⟩
        by_cases h80 : s.ppu.dot < 80
        · rw [modeAt_oamScan h144 h80, modeAt_oamScan h144 (by omega)]
        · by_cases h : s.ppu.dot < 80 + s.ppu.mode3Len
          · rw [modeAt_transfer h144 (by omega) h, modeAt_transfer h144 (by omega) (by omega)]
          · rw [modeAt_hblank h144 (by omega), modeAt_hblank h144 (by omega)]
  · refine ⟨hly, hd, h3, hm.trans ?_, hfb⟩
    rw [modeAt_vblank (by omega), modeAt_vblank (by omega)]

/-- A tick keeps the PPU's counters in range and its mode the one they give (R443). -/
theorem ppuTick_wf {s : State} (hq : s.params.wf = true) (h : s.ppu.wf = true) : s.ppuTick.1.ppu.wf = true := by
  rw [ppu_wf_iff] at h
  obtain ⟨hly, hd, h3, hm, hfb⟩ := h
  by_cases hend : s.ppu.dot + 1 = 456
  · rw [ppuTick_end hend h3.2]
    refine endLine_wf hly h3 hfb fun h144 => ?_
    show s.ppu.mode = _
    rw [hm, modeAt_vblank h144]
  · rw [ppuTick_mid hend]
    exact lineEvents_wf hq hly (show s.ppu.dot + 1 < 456 by omega) h3 hfb (Nat.succ_pos _) hm

end Sys2Proof.Machine
end

