-- ==== Sys2Proof/Laws/Step.lean ====
section
/-! SUPPORT. What a step can do, said once: the four kinds of step of 60_exceptions.md R400, and what the fetch, the end of a step
and the frame yield leave alone. -/
namespace Sys2Proof.Machine

/-! ### The fetch -/

/-- A fetch changes the outside world alone: it may consume a draw (30_encoding.md R131, 60_exceptions.md R470). -/
structure FetchKeeps (s t : State) : Prop where
  regs    : t.regs = s.regs
  ctl     : t.ctl = s.ctl
  irq     : t.irq = s.irq
  io      : t.io = s.io
  ppu     : t.ppu = s.ppu
  mem     : t.mem = s.mem
  buttons : t.buttons = s.buttons
  params  : t.params = s.params
  out     : t.out = s.out

theorem FetchKeeps.refl (s : State) : FetchKeeps s s := ⟨rfl, rfl, rfl, rfl, rfl, rfl, rfl, rfl, rfl⟩

theorem FetchKeeps.read {s t : State} (h : FetchKeeps s t) (a : Word) : FetchKeeps s (t.afterRead a) :=
  ⟨by simp [h.regs], by simp [h.ctl], by simp [h.irq], by simp [h.io], by simp [h.ppu], by simp [h.mem], by simp [h.buttons],
    by simp [h.params], by simp [h.out]⟩

theorem fetchOpcode_keeps (s : State) : FetchKeeps s s.fetchOpcode.2.2 := by
  unfold State.fetchOpcode
  simp only []
  split
  · exact ((FetchKeeps.refl s).read _).read _
  · exact (FetchKeeps.refl s).read _

theorem fetchOperands_keeps (s : State) (e : Entry) : FetchKeeps s (s.fetchOperands e).2 := by
  unfold State.fetchOperands
  cases e
  · exact FetchKeeps.refl s
  · exact (FetchKeeps.refl s).read _
  · exact ((FetchKeeps.refl s).read _).read _
  · exact FetchKeeps.refl s
  · exact (FetchKeeps.refl s).read _

theorem FetchKeeps.trans {s t u : State} (h : FetchKeeps s t) (h' : FetchKeeps t u) : FetchKeeps s u :=
  ⟨h'.regs.trans h.regs, h'.ctl.trans h.ctl, h'.irq.trans h.irq, h'.io.trans h.io, h'.ppu.trans h.ppu, h'.mem.trans h.mem,
    h'.buttons.trans h.buttons, h'.params.trans h.params, h'.out.trans h.out⟩

theorem FetchKeeps.keeps {s t : State} (h : FetchKeeps s t) : Keeps s t := Keeps.of_eq h.ppu h.buttons h.params h.mem

/-! ### The kinds of step -/

/-- What a step of a machine that goes on leaves before the host's turn (60_exceptions.md R400). -/
inductive Stepped (s : State) : State → Prop
  /-- A halted wait (R401). -/
  | wait (h : s.waits = true) : Stepped s (s.completeStep 4)
  /-- An interrupt dispatch (R411). -/
  | dispatch (h : s.waits = false) (hd : s.dispatchPending = true) : Stepped s (s.wake.dispatchInterrupt.completeStep 20)
  /-- The fetch of an opcode that is left out (R420). -/
  | leftOut (u : State) (h : s.waits = false) (hd : s.dispatchPending = false) (hu : FetchKeeps s.wake u) (op : BitVec 16)
      (ho : s.params.leftOut.contains op = true) : Stepped s (u.raiseFatal op)
  /-- One instruction, executed and retired. -/
  | run (u v : State) (h : s.waits = false) (hd : s.dispatchPending = false) (hu : FetchKeeps s.wake u) (hr : Runs u v) :
      Stepped s v.retire

theorem wake_dispatchPending (s : State) : s.wake.dispatchPending = s.dispatchPending := rfl

/-- A machine that goes on always steps, in one of the four ways. -/
theorem machineStep_stepped (s : State) : ∃ t, machineStep s = .next t ∧ Stepped s t := by
  unfold machineStep
  by_cases hw : s.waits = true
  · exact ⟨_, if_pos hw, .wait hw⟩
  · rw [if_neg hw]
    have hw' : s.waits = false := by simpa using hw
    by_cases hd : s.dispatchPending = true
    · exact ⟨_, if_pos hd, .dispatch hw' hd⟩
    · rw [if_neg (show ¬s.wake.dispatchPending = true from hd)]
      have hd' : s.dispatchPending = false := by simpa using hd
      unfold State.runInstruction
      simp only []
      have h1 := fetchOpcode_keeps s.wake
      split
      · rename_i ho
        exact ⟨_, rfl, .leftOut _ hw' hd' h1 _ ho⟩
      · obtain ⟨v, hv, hr⟩ := exec_runs (s.wake.fetchOpcode.2.2.fetchOperands s.wake.fetchOpcode.2.1).1
          (s.wake.fetchOpcode.2.2.fetchOperands s.wake.fetchOpcode.2.1).2
        refine ⟨v.retire, ?_, .run _ v hw' hd' (h1.trans (fetchOperands_keeps _ _)) hr⟩
        unfold runDecoded
        rw [hv]

/-- Every next state of a step: a reset after a fatal stop, or a step of the machine and the host's turn. -/
theorem step_cases {s t : State} (h : step s = .next t) :
    (s.ext.stopped = false ∧ (∃ r q, s.ctl.fatal = some r ∧ s.ext.yields = .reset :: q ∧ t = (s.withYields q).hostReset)) ∨
      (s.live = true ∧ ∃ u, Stepped s u ∧ t = u.frameYield) := by
  unfold step facadeStep at h
  by_cases hs : s.ext.stopped = true
  · rw [if_pos hs] at h; cases h
  · rw [if_neg hs] at h
    have hs' : s.ext.stopped = false := by simpa using hs
    split at h
    · rename_i r hr
      unfold afterFatal at h
      split at h
      · rename_i q hq
        cases h
        exact .inl ⟨hs', r, q, hr, hq, rfl⟩
      · cases h
    · rename_i hf
      obtain ⟨u, hu, hst⟩ := machineStep_stepped s
      rw [hu] at h
      cases h
      exact .inr ⟨by simp [State.live, hs', hf], u, hst, rfl⟩

/-- A live machine always steps. -/
theorem step_live {s : State} (h : s.live = true) : ∃ u, Stepped s u ∧ step s = .next u.frameYield := by
  simp only [State.live, Bool.and_eq_true, Bool.not_eq_true', decide_eq_true_eq] at h
  obtain ⟨u, hu, hst⟩ := machineStep_stepped s
  refine ⟨u, hst, ?_⟩
  unfold step facadeStep
  rw [if_neg (by simp [h.1]), h.2]
  simp only [hu]

/-! ### The end of a step and the host's turn -/

theorem endOfInstruction_keeps (s : State) : Keeps s s.endOfInstruction := by
  unfold State.endOfInstruction
  split <;> exact Keeps.of_eq rfl rfl rfl rfl

@[simp] theorem endOfInstruction_params (s : State) : s.endOfInstruction.params = s.params := (endOfInstruction_keeps s).params

theorem completeStep_params (s : State) (n : Nat) : (s.completeStep n).params = s.params := (advancePpu_keeps n s).params
theorem completeStep_mem (s : State) (n : Nat) : (s.completeStep n).mem = s.mem := (advancePpu_keeps n s).mem
theorem completeStep_ctl (s : State) (n : Nat) : (s.completeStep n).ctl = s.ctl := (advancePpu_keeps n s).ctl
theorem completeStep_regs (s : State) (n : Nat) : (s.completeStep n).regs = s.regs := (advancePpu_keeps n s).regs
theorem completeStep_buttons (s : State) (n : Nat) : (s.completeStep n).buttons = s.buttons := (advancePpu_keeps n s).buttons
theorem completeStep_ppu (s : State) (n : Nat) : (s.completeStep n).ppu = (advancePpu n s).1.ppu := rfl

/-- The host's turn leaves everything but the buttons and the outside world as it is, or resets the machine
(60_exceptions.md R481). -/
theorem frameYield_cases (s : State) :
    (∃ b x, s.frameYield = { s with buttons := b, ext := x }) ∨ ∃ q, s.ext.yields = .reset :: q ∧ s.frameYield = (s.withYields q).hostReset := by
  unfold State.frameYield
  split
  · split
    · unfold State.hostTurn
      split
      · exact .inl ⟨s.buttons, _, rfl⟩
      · exact .inl ⟨_, _, rfl⟩
      · rename_i q hq
        exact .inr ⟨q, hq, rfl⟩
      · exact .inl ⟨s.buttons, _, rfl⟩
      · exact .inl ⟨_, _, rfl⟩
    · exact .inl ⟨s.buttons, s.ext, rfl⟩
  · exact .inl ⟨s.buttons, s.ext, rfl⟩

/-! ### What every step keeps -/

theorem retire_mem (s : State) : s.retire.mem = s.mem := by
  unfold State.retire
  split
  · rw [completeStep_mem]
    unfold State.endOfInstruction
    split <;> rfl
  · rfl

theorem retire_params (s : State) : s.retire.params = s.params := by
  unfold State.retire
  split
  · rw [completeStep_params, endOfInstruction_params]
  · rfl

theorem retire_buttons (s : State) : s.retire.buttons = s.buttons := by
  unfold State.retire
  split
  · rw [completeStep_buttons, (endOfInstruction_keeps s).buttons]
  · rfl

/-- What no step changes before the host's turn: ROM, the parameters, the buttons, and the canonical form of memory. -/
theorem stepped_keeps {s u : State} (h : Stepped s u) :
    (∀ k, k < 0x8000 → u.mem.get k = s.mem.get k) ∧ u.params = s.params ∧ u.buttons = s.buttons ∧
      (s.mem.wf = true → u.mem.wf = true) := by
  cases h with
  | wait =>
    rw [completeStep_mem, completeStep_params, completeStep_buttons]
    exact ⟨fun _ _ => rfl, rfl, rfl, id⟩
  | dispatch =>
    rw [completeStep_mem, completeStep_params, completeStep_buttons]
    have h := Keeps.dispatch s.wake
    exact ⟨h.rom, h.params, h.buttons, h.wf⟩
  | leftOut v hw hd hv op ho =>
    have hm : (v.raiseFatal op).mem = s.mem := hv.mem
    exact ⟨fun k _ => by rw [hm], hv.params, hv.buttons, by rw [hm]; exact id⟩
  | run v w hw hd hv hr =>
    have h := (show Keeps s s.wake from Keeps.of_eq rfl rfl rfl rfl).trans (hv.keeps.trans (runs_keeps hr))
    rw [retire_mem, retire_params, retire_buttons]
    exact ⟨h.rom, h.params, h.buttons, h.wf⟩

/-- The end of a step keeps the PPU consistent, whatever the cycles. -/
theorem completeStep_wf (n : Nat) {s : State} (hq : s.params.wf = true) (h : s.ppu.wf = true) :
    (s.completeStep n).ppu.wf = true := by
  rw [completeStep_ppu]
  induction n generalizing s with
  | zero => exact h
  | succ n ih => exact ih (by rw [(ppuTick_keeps s).params]; exact hq) (ppuTick_wf hq h)

end Sys2Proof.Machine
end

