-- ==== Sys2Proof/Tests/Slice0.lean ====
section
/-! SUPPORT. The model's own tests, and for every statement with hypotheses a witness that they can all be met. The expected values
come from the spec: the words from opcode_table.json, the steps from the vectors of 95_test_vectors.md sections 1 and 2 and the
examples in the rules. -/
namespace Sys2Proof.Tests
open Sys2Proof Sys2Proof.Machine

/-! ### Helpers -/

/-- The bytes spell exactly this instruction, with nothing left over. -/
def reads (bytes : List Byte) (i : Instr) : Bool :=
  match decode bytes with
  | .ok (j, []) => decide (j = i)
  | _           => false

def readsAll (l : List (List Byte × Instr)) : Bool := l.all fun x => reads x.1 x.2

/-- `F` written as a byte. -/
def fl (v : Byte) : Flags := Flags.ofByte v

/-- The outcome is a next state that passes the check. -/
def next (o : Outcome) (p : State → Bool) : Bool :=
  match o with
  | .next t => p t
  | _       => false

/-- One step from the state, with the bytes in ROM at PC. -/
def ran (bytes : List Byte) (s : State) (p : State → Bool) : Bool := next (step (s.placeInstruction bytes)) p

/-- The reset state with HL at 0xC000, where the byte `v` stands, and F clear. -/
def atC000 (v : Byte) : State :=
  { State.reset with
    regs := { State.reset.regs with h := 0xC0#8, l := 0x00#8, f := fl 0x00#8 }
    mem := State.reset.mem.put 0xC000 v }

/-- The reset state with PC at 0x0150, where a NOP stands, and the interrupt state given. -/
def at0150 (ime halted : Bool) (ie : Byte) (flags : BitVec 5) : State :=
  { State.reset with
    regs := { State.reset.regs with pc := 0x0150#16 }
    ctl := { State.reset.ctl with ime := ime, halted := halted }
    irq := { ie := ie, flags := flags } }

/-- The reset state with the PPU at a place of the frame and IF clear. -/
def atPlace (ly dot : Nat) (mode : PpuMode) : State :=
  { State.reset with
    ppu := { State.reset.ppu with ly := ly, dot := dot, mode := mode }
    irq := { ie := 0x00#8, flags := 0#5 } }

/-- The background of Scenario 4 (95_test_vectors.md S4) with LCDC given, and further bytes. -/
def scenario4 (lcdc : Byte) (more : List (Nat × Byte)) : State :=
  { State.reset with
    io := { State.reset.io with lcdc := lcdc, bgp := 0xE4#8, obp0 := 0xE4#8, obp1 := 0x1B#8 }
    mem := more.foldl (fun m x => m.put x.1 x.2) [(0x8000, 0x80#8), (0x8001, 0x80#8)] }

/-! ### Well-formed instructions (30_encoding.md R141): every illegal term is refused by its own check -/

theorem test_wellFormed_refuses_illegal :
    [Instr.illegalD3, .illegalDB, .illegalDD, .illegalE3, .illegalE4, .illegalEB, .illegalEC, .illegalED, .illegalF4, .illegalFC,
      .illegalFD].all (fun i => !i.wellFormed) = true := by decide

theorem test_wellFormed_admits_defined : [Instr.nop, .stop, .ldBcD16 0xFFFF#16, .set7A].all Instr.wellFormed = true := by decide

/-! ### Decoding: the word of every row of opcode_table.json, with operand bytes A5 or 34 12 (30_encoding.md Tables E1 and E2) -/

theorem test_decode_base_0x : readsAll
    [([0x00#8], .nop), ([0x01#8, 0x34#8, 0x12#8], .ldBcD16 0x1234#16),
     ([0x02#8], .ldAtBcA), ([0x03#8], .incBc),
     ([0x04#8], .incB), ([0x05#8], .decB),
     ([0x06#8, 0xA5#8], .ldBD8 0xA5#8), ([0x07#8], .rlca),
     ([0x08#8, 0x34#8, 0x12#8], .ldAtA16Sp 0x1234#16), ([0x09#8], .addHlBc),
     ([0x0A#8], .ldAAtBc), ([0x0B#8], .decBc),
     ([0x0C#8], .incC), ([0x0D#8], .decC),
     ([0x0E#8, 0xA5#8], .ldCD8 0xA5#8), ([0x0F#8], .rrca)] = true := by decide

theorem test_decode_base_1x : readsAll
    [([0x10#8, 0x00#8], .stop), ([0x11#8, 0x34#8, 0x12#8], .ldDeD16 0x1234#16),
     ([0x12#8], .ldAtDeA), ([0x13#8], .incDe),
     ([0x14#8], .incD), ([0x15#8], .decD),
     ([0x16#8, 0xA5#8], .ldDD8 0xA5#8), ([0x17#8], .rla),
     ([0x18#8, 0xA5#8], .jrE8 0xA5#8), ([0x19#8], .addHlDe),
     ([0x1A#8], .ldAAtDe), ([0x1B#8], .decDe),
     ([0x1C#8], .incE), ([0x1D#8], .decE),
     ([0x1E#8, 0xA5#8], .ldED8 0xA5#8), ([0x1F#8], .rra)] = true := by decide

theorem test_decode_base_2x : readsAll
    [([0x20#8, 0xA5#8], .jrNzE8 0xA5#8), ([0x21#8, 0x34#8, 0x12#8], .ldHlD16 0x1234#16),
     ([0x22#8], .ldAtHlIncA), ([0x23#8], .incHl),
     ([0x24#8], .incH), ([0x25#8], .decH),
     ([0x26#8, 0xA5#8], .ldHD8 0xA5#8), ([0x27#8], .daa),
     ([0x28#8, 0xA5#8], .jrZE8 0xA5#8), ([0x29#8], .addHlHl),
     ([0x2A#8], .ldAAtHlInc), ([0x2B#8], .decHl),
     ([0x2C#8], .incL), ([0x2D#8], .decL),
     ([0x2E#8, 0xA5#8], .ldLD8 0xA5#8), ([0x2F#8], .cpl)] = true := by decide

theorem test_decode_base_3x : readsAll
    [([0x30#8, 0xA5#8], .jrNcE8 0xA5#8), ([0x31#8, 0x34#8, 0x12#8], .ldSpD16 0x1234#16),
     ([0x32#8], .ldAtHlDecA), ([0x33#8], .incSp),
     ([0x34#8], .incAtHl), ([0x35#8], .decAtHl),
     ([0x36#8, 0xA5#8], .ldAtHlD8 0xA5#8), ([0x37#8], .scf),
     ([0x38#8, 0xA5#8], .jrCE8 0xA5#8), ([0x39#8], .addHlSp),
     ([0x3A#8], .ldAAtHlDec), ([0x3B#8], .decSp),
     ([0x3C#8], .incA), ([0x3D#8], .decA),
     ([0x3E#8, 0xA5#8], .ldAD8 0xA5#8), ([0x3F#8], .ccf)] = true := by decide

theorem test_decode_base_4x : readsAll
    [([0x40#8], .ldBB), ([0x41#8], .ldBC),
     ([0x42#8], .ldBD), ([0x43#8], .ldBE),
     ([0x44#8], .ldBH), ([0x45#8], .ldBL),
     ([0x46#8], .ldBAtHl), ([0x47#8], .ldBA),
     ([0x48#8], .ldCB), ([0x49#8], .ldCC),
     ([0x4A#8], .ldCD), ([0x4B#8], .ldCE),
     ([0x4C#8], .ldCH), ([0x4D#8], .ldCL),
     ([0x4E#8], .ldCAtHl), ([0x4F#8], .ldCA)] = true := by decide

theorem test_decode_base_5x : readsAll
    [([0x50#8], .ldDB), ([0x51#8], .ldDC),
     ([0x52#8], .ldDD), ([0x53#8], .ldDE),
     ([0x54#8], .ldDH), ([0x55#8], .ldDL),
     ([0x56#8], .ldDAtHl), ([0x57#8], .ldDA),
     ([0x58#8], .ldEB), ([0x59#8], .ldEC),
     ([0x5A#8], .ldED), ([0x5B#8], .ldEE),
     ([0x5C#8], .ldEH), ([0x5D#8], .ldEL),
     ([0x5E#8], .ldEAtHl), ([0x5F#8], .ldEA)] = true := by decide

theorem test_decode_base_6x : readsAll
    [([0x60#8], .ldHB), ([0x61#8], .ldHC),
     ([0x62#8], .ldHD), ([0x63#8], .ldHE),
     ([0x64#8], .ldHH), ([0x65#8], .ldHL),
     ([0x66#8], .ldHAtHl), ([0x67#8], .ldHA),
     ([0x68#8], .ldLB), ([0x69#8], .ldLC),
     ([0x6A#8], .ldLD), ([0x6B#8], .ldLE),
     ([0x6C#8], .ldLH), ([0x6D#8], .ldLL),
     ([0x6E#8], .ldLAtHl), ([0x6F#8], .ldLA)] = true := by decide

theorem test_decode_base_7x : readsAll
    [([0x70#8], .ldAtHlB), ([0x71#8], .ldAtHlC),
     ([0x72#8], .ldAtHlD), ([0x73#8], .ldAtHlE),
     ([0x74#8], .ldAtHlH), ([0x75#8], .ldAtHlL),
     ([0x76#8], .halt), ([0x77#8], .ldAtHlA),
     ([0x78#8], .ldAB), ([0x79#8], .ldAC),
     ([0x7A#8], .ldAD), ([0x7B#8], .ldAE),
     ([0x7C#8], .ldAH), ([0x7D#8], .ldAL),
     ([0x7E#8], .ldAAtHl), ([0x7F#8], .ldAA)] = true := by decide

theorem test_decode_base_8x : readsAll
    [([0x80#8], .addAB), ([0x81#8], .addAC),
     ([0x82#8], .addAD), ([0x83#8], .addAE),
     ([0x84#8], .addAH), ([0x85#8], .addAL),
     ([0x86#8], .addAAtHl), ([0x87#8], .addAA),
     ([0x88#8], .adcAB), ([0x89#8], .adcAC),
     ([0x8A#8], .adcAD), ([0x8B#8], .adcAE),
     ([0x8C#8], .adcAH), ([0x8D#8], .adcAL),
     ([0x8E#8], .adcAAtHl), ([0x8F#8], .adcAA)] = true := by decide

theorem test_decode_base_9x : readsAll
    [([0x90#8], .subB), ([0x91#8], .subC),
     ([0x92#8], .subD), ([0x93#8], .subE),
     ([0x94#8], .subH), ([0x95#8], .subL),
     ([0x96#8], .subAtHl), ([0x97#8], .subA),
     ([0x98#8], .sbcAB), ([0x99#8], .sbcAC),
     ([0x9A#8], .sbcAD), ([0x9B#8], .sbcAE),
     ([0x9C#8], .sbcAH), ([0x9D#8], .sbcAL),
     ([0x9E#8], .sbcAAtHl), ([0x9F#8], .sbcAA)] = true := by decide

theorem test_decode_base_ax : readsAll
    [([0xA0#8], .andB), ([0xA1#8], .andC),
     ([0xA2#8], .andD), ([0xA3#8], .andE),
     ([0xA4#8], .andH), ([0xA5#8], .andL),
     ([0xA6#8], .andAtHl), ([0xA7#8], .andA),
     ([0xA8#8], .xorB), ([0xA9#8], .xorC),
     ([0xAA#8], .xorD), ([0xAB#8], .xorE),
     ([0xAC#8], .xorH), ([0xAD#8], .xorL),
     ([0xAE#8], .xorAtHl), ([0xAF#8], .xorA)] = true := by decide

theorem test_decode_base_bx : readsAll
    [([0xB0#8], .orB), ([0xB1#8], .orC),
     ([0xB2#8], .orD), ([0xB3#8], .orE),
     ([0xB4#8], .orH), ([0xB5#8], .orL),
     ([0xB6#8], .orAtHl), ([0xB7#8], .orA),
     ([0xB8#8], .cpB), ([0xB9#8], .cpC),
     ([0xBA#8], .cpD), ([0xBB#8], .cpE),
     ([0xBC#8], .cpH), ([0xBD#8], .cpL),
     ([0xBE#8], .cpAtHl), ([0xBF#8], .cpA)] = true := by decide

theorem test_decode_base_cx : readsAll
    [([0xC0#8], .retNz), ([0xC1#8], .popBc),
     ([0xC2#8, 0x34#8, 0x12#8], .jpNzA16 0x1234#16), ([0xC3#8, 0x34#8, 0x12#8], .jpA16 0x1234#16),
     ([0xC4#8, 0x34#8, 0x12#8], .callNzA16 0x1234#16), ([0xC5#8], .pushBc),
     ([0xC6#8, 0xA5#8], .addAD8 0xA5#8), ([0xC7#8], .rst00),
     ([0xC8#8], .retZ), ([0xC9#8], .ret),
     ([0xCA#8, 0x34#8, 0x12#8], .jpZA16 0x1234#16), ([0xCC#8, 0x34#8, 0x12#8], .callZA16 0x1234#16),
     ([0xCD#8, 0x34#8, 0x12#8], .callA16 0x1234#16), ([0xCE#8, 0xA5#8], .adcAD8 0xA5#8),
     ([0xCF#8], .rst08)] = true := by decide

theorem test_decode_base_dx : readsAll
    [([0xD0#8], .retNc), ([0xD1#8], .popDe),
     ([0xD2#8, 0x34#8, 0x12#8], .jpNcA16 0x1234#16), ([0xD4#8, 0x34#8, 0x12#8], .callNcA16 0x1234#16),
     ([0xD5#8], .pushDe), ([0xD6#8, 0xA5#8], .subD8 0xA5#8),
     ([0xD7#8], .rst10), ([0xD8#8], .retC),
     ([0xD9#8], .reti), ([0xDA#8, 0x34#8, 0x12#8], .jpCA16 0x1234#16),
     ([0xDC#8, 0x34#8, 0x12#8], .callCA16 0x1234#16), ([0xDE#8, 0xA5#8], .sbcAD8 0xA5#8),
     ([0xDF#8], .rst18), ([0xD3#8], .illegalD3),
     ([0xDB#8], .illegalDB), ([0xDD#8], .illegalDD)] = true := by decide

theorem test_decode_base_ex : readsAll
    [([0xE0#8, 0xA5#8], .ldhAtA8A 0xA5#8), ([0xE1#8], .popHl),
     ([0xE2#8], .ldAtCA), ([0xE5#8], .pushHl),
     ([0xE6#8, 0xA5#8], .andD8 0xA5#8), ([0xE7#8], .rst20),
     ([0xE8#8, 0xA5#8], .addSpE8 0xA5#8), ([0xE9#8], .jpHl),
     ([0xEA#8, 0x34#8, 0x12#8], .ldAtA16A 0x1234#16), ([0xEE#8, 0xA5#8], .xorD8 0xA5#8),
     ([0xEF#8], .rst28), ([0xE3#8], .illegalE3),
     ([0xE4#8], .illegalE4), ([0xEB#8], .illegalEB),
     ([0xEC#8], .illegalEC), ([0xED#8], .illegalED)] = true := by decide

theorem test_decode_base_fx : readsAll
    [([0xF0#8, 0xA5#8], .ldhAAtA8 0xA5#8), ([0xF1#8], .popAf),
     ([0xF2#8], .ldAAtC), ([0xF3#8], .di),
     ([0xF5#8], .pushAf), ([0xF6#8, 0xA5#8], .orD8 0xA5#8),
     ([0xF7#8], .rst30), ([0xF8#8, 0xA5#8], .ldHlSpE8 0xA5#8),
     ([0xF9#8], .ldSpHl), ([0xFA#8, 0x34#8, 0x12#8], .ldAAtA16 0x1234#16),
     ([0xFB#8], .ei), ([0xFE#8, 0xA5#8], .cpD8 0xA5#8),
     ([0xFF#8], .rst38), ([0xF4#8], .illegalF4),
     ([0xFC#8], .illegalFC), ([0xFD#8], .illegalFD)] = true := by decide

theorem test_decode_cb_0x : readsAll
    [([0xCB#8, 0x00#8], .rlcB), ([0xCB#8, 0x01#8], .rlcC),
     ([0xCB#8, 0x02#8], .rlcD), ([0xCB#8, 0x03#8], .rlcE),
     ([0xCB#8, 0x04#8], .rlcH), ([0xCB#8, 0x05#8], .rlcL),
     ([0xCB#8, 0x06#8], .rlcAtHl), ([0xCB#8, 0x07#8], .rlcA),
     ([0xCB#8, 0x08#8], .rrcB), ([0xCB#8, 0x09#8], .rrcC),
     ([0xCB#8, 0x0A#8], .rrcD), ([0xCB#8, 0x0B#8], .rrcE),
     ([0xCB#8, 0x0C#8], .rrcH), ([0xCB#8, 0x0D#8], .rrcL),
     ([0xCB#8, 0x0E#8], .rrcAtHl), ([0xCB#8, 0x0F#8], .rrcA)] = true := by decide

theorem test_decode_cb_1x : readsAll
    [([0xCB#8, 0x10#8], .rlB), ([0xCB#8, 0x11#8], .rlC),
     ([0xCB#8, 0x12#8], .rlD), ([0xCB#8, 0x13#8], .rlE),
     ([0xCB#8, 0x14#8], .rlH), ([0xCB#8, 0x15#8], .rlL),
     ([0xCB#8, 0x16#8], .rlAtHl), ([0xCB#8, 0x17#8], .rlA),
     ([0xCB#8, 0x18#8], .rrB), ([0xCB#8, 0x19#8], .rrC),
     ([0xCB#8, 0x1A#8], .rrD), ([0xCB#8, 0x1B#8], .rrE),
     ([0xCB#8, 0x1C#8], .rrH), ([0xCB#8, 0x1D#8], .rrL),
     ([0xCB#8, 0x1E#8], .rrAtHl), ([0xCB#8, 0x1F#8], .rrA)] = true := by decide

theorem test_decode_cb_2x : readsAll
    [([0xCB#8, 0x20#8], .slaB), ([0xCB#8, 0x21#8], .slaC),
     ([0xCB#8, 0x22#8], .slaD), ([0xCB#8, 0x23#8], .slaE),
     ([0xCB#8, 0x24#8], .slaH), ([0xCB#8, 0x25#8], .slaL),
     ([0xCB#8, 0x26#8], .slaAtHl), ([0xCB#8, 0x27#8], .slaA),
     ([0xCB#8, 0x28#8], .sraB), ([0xCB#8, 0x29#8], .sraC),
     ([0xCB#8, 0x2A#8], .sraD), ([0xCB#8, 0x2B#8], .sraE),
     ([0xCB#8, 0x2C#8], .sraH), ([0xCB#8, 0x2D#8], .sraL),
     ([0xCB#8, 0x2E#8], .sraAtHl), ([0xCB#8, 0x2F#8], .sraA)] = true := by decide

theorem test_decode_cb_3x : readsAll
    [([0xCB#8, 0x30#8], .swapB), ([0xCB#8, 0x31#8], .swapC),
     ([0xCB#8, 0x32#8], .swapD), ([0xCB#8, 0x33#8], .swapE),
     ([0xCB#8, 0x34#8], .swapH), ([0xCB#8, 0x35#8], .swapL),
     ([0xCB#8, 0x36#8], .swapAtHl), ([0xCB#8, 0x37#8], .swapA),
     ([0xCB#8, 0x38#8], .srlB), ([0xCB#8, 0x39#8], .srlC),
     ([0xCB#8, 0x3A#8], .srlD), ([0xCB#8, 0x3B#8], .srlE),
     ([0xCB#8, 0x3C#8], .srlH), ([0xCB#8, 0x3D#8], .srlL),
     ([0xCB#8, 0x3E#8], .srlAtHl), ([0xCB#8, 0x3F#8], .srlA)] = true := by decide

theorem test_decode_cb_4x : readsAll
    [([0xCB#8, 0x40#8], .bit0B), ([0xCB#8, 0x41#8], .bit0C),
     ([0xCB#8, 0x42#8], .bit0D), ([0xCB#8, 0x43#8], .bit0E),
     ([0xCB#8, 0x44#8], .bit0H), ([0xCB#8, 0x45#8], .bit0L),
     ([0xCB#8, 0x46#8], .bit0AtHl), ([0xCB#8, 0x47#8], .bit0A),
     ([0xCB#8, 0x48#8], .bit1B), ([0xCB#8, 0x49#8], .bit1C),
     ([0xCB#8, 0x4A#8], .bit1D), ([0xCB#8, 0x4B#8], .bit1E),
     ([0xCB#8, 0x4C#8], .bit1H), ([0xCB#8, 0x4D#8], .bit1L),
     ([0xCB#8, 0x4E#8], .bit1AtHl), ([0xCB#8, 0x4F#8], .bit1A)] = true := by decide

theorem test_decode_cb_5x : readsAll
    [([0xCB#8, 0x50#8], .bit2B), ([0xCB#8, 0x51#8], .bit2C),
     ([0xCB#8, 0x52#8], .bit2D), ([0xCB#8, 0x53#8], .bit2E),
     ([0xCB#8, 0x54#8], .bit2H), ([0xCB#8, 0x55#8], .bit2L),
     ([0xCB#8, 0x56#8], .bit2AtHl), ([0xCB#8, 0x57#8], .bit2A),
     ([0xCB#8, 0x58#8], .bit3B), ([0xCB#8, 0x59#8], .bit3C),
     ([0xCB#8, 0x5A#8], .bit3D), ([0xCB#8, 0x5B#8], .bit3E),
     ([0xCB#8, 0x5C#8], .bit3H), ([0xCB#8, 0x5D#8], .bit3L),
     ([0xCB#8, 0x5E#8], .bit3AtHl), ([0xCB#8, 0x5F#8], .bit3A)] = true := by decide

theorem test_decode_cb_6x : readsAll
    [([0xCB#8, 0x60#8], .bit4B), ([0xCB#8, 0x61#8], .bit4C),
     ([0xCB#8, 0x62#8], .bit4D), ([0xCB#8, 0x63#8], .bit4E),
     ([0xCB#8, 0x64#8], .bit4H), ([0xCB#8, 0x65#8], .bit4L),
     ([0xCB#8, 0x66#8], .bit4AtHl), ([0xCB#8, 0x67#8], .bit4A),
     ([0xCB#8, 0x68#8], .bit5B), ([0xCB#8, 0x69#8], .bit5C),
     ([0xCB#8, 0x6A#8], .bit5D), ([0xCB#8, 0x6B#8], .bit5E),
     ([0xCB#8, 0x6C#8], .bit5H), ([0xCB#8, 0x6D#8], .bit5L),
     ([0xCB#8, 0x6E#8], .bit5AtHl), ([0xCB#8, 0x6F#8], .bit5A)] = true := by decide

theorem test_decode_cb_7x : readsAll
    [([0xCB#8, 0x70#8], .bit6B), ([0xCB#8, 0x71#8], .bit6C),
     ([0xCB#8, 0x72#8], .bit6D), ([0xCB#8, 0x73#8], .bit6E),
     ([0xCB#8, 0x74#8], .bit6H), ([0xCB#8, 0x75#8], .bit6L),
     ([0xCB#8, 0x76#8], .bit6AtHl), ([0xCB#8, 0x77#8], .bit6A),
     ([0xCB#8, 0x78#8], .bit7B), ([0xCB#8, 0x79#8], .bit7C),
     ([0xCB#8, 0x7A#8], .bit7D), ([0xCB#8, 0x7B#8], .bit7E),
     ([0xCB#8, 0x7C#8], .bit7H), ([0xCB#8, 0x7D#8], .bit7L),
     ([0xCB#8, 0x7E#8], .bit7AtHl), ([0xCB#8, 0x7F#8], .bit7A)] = true := by decide

theorem test_decode_cb_8x : readsAll
    [([0xCB#8, 0x80#8], .res0B), ([0xCB#8, 0x81#8], .res0C),
     ([0xCB#8, 0x82#8], .res0D), ([0xCB#8, 0x83#8], .res0E),
     ([0xCB#8, 0x84#8], .res0H), ([0xCB#8, 0x85#8], .res0L),
     ([0xCB#8, 0x86#8], .res0AtHl), ([0xCB#8, 0x87#8], .res0A),
     ([0xCB#8, 0x88#8], .res1B), ([0xCB#8, 0x89#8], .res1C),
     ([0xCB#8, 0x8A#8], .res1D), ([0xCB#8, 0x8B#8], .res1E),
     ([0xCB#8, 0x8C#8], .res1H), ([0xCB#8, 0x8D#8], .res1L),
     ([0xCB#8, 0x8E#8], .res1AtHl), ([0xCB#8, 0x8F#8], .res1A)] = true := by decide

theorem test_decode_cb_9x : readsAll
    [([0xCB#8, 0x90#8], .res2B), ([0xCB#8, 0x91#8], .res2C),
     ([0xCB#8, 0x92#8], .res2D), ([0xCB#8, 0x93#8], .res2E),
     ([0xCB#8, 0x94#8], .res2H), ([0xCB#8, 0x95#8], .res2L),
     ([0xCB#8, 0x96#8], .res2AtHl), ([0xCB#8, 0x97#8], .res2A),
     ([0xCB#8, 0x98#8], .res3B), ([0xCB#8, 0x99#8], .res3C),
     ([0xCB#8, 0x9A#8], .res3D), ([0xCB#8, 0x9B#8], .res3E),
     ([0xCB#8, 0x9C#8], .res3H), ([0xCB#8, 0x9D#8], .res3L),
     ([0xCB#8, 0x9E#8], .res3AtHl), ([0xCB#8, 0x9F#8], .res3A)] = true := by decide

theorem test_decode_cb_ax : readsAll
    [([0xCB#8, 0xA0#8], .res4B), ([0xCB#8, 0xA1#8], .res4C),
     ([0xCB#8, 0xA2#8], .res4D), ([0xCB#8, 0xA3#8], .res4E),
     ([0xCB#8, 0xA4#8], .res4H), ([0xCB#8, 0xA5#8], .res4L),
     ([0xCB#8, 0xA6#8], .res4AtHl), ([0xCB#8, 0xA7#8], .res4A),
     ([0xCB#8, 0xA8#8], .res5B), ([0xCB#8, 0xA9#8], .res5C),
     ([0xCB#8, 0xAA#8], .res5D), ([0xCB#8, 0xAB#8], .res5E),
     ([0xCB#8, 0xAC#8], .res5H), ([0xCB#8, 0xAD#8], .res5L),
     ([0xCB#8, 0xAE#8], .res5AtHl), ([0xCB#8, 0xAF#8], .res5A)] = true := by decide

theorem test_decode_cb_bx : readsAll
    [([0xCB#8, 0xB0#8], .res6B), ([0xCB#8, 0xB1#8], .res6C),
     ([0xCB#8, 0xB2#8], .res6D), ([0xCB#8, 0xB3#8], .res6E),
     ([0xCB#8, 0xB4#8], .res6H), ([0xCB#8, 0xB5#8], .res6L),
     ([0xCB#8, 0xB6#8], .res6AtHl), ([0xCB#8, 0xB7#8], .res6A),
     ([0xCB#8, 0xB8#8], .res7B), ([0xCB#8, 0xB9#8], .res7C),
     ([0xCB#8, 0xBA#8], .res7D), ([0xCB#8, 0xBB#8], .res7E),
     ([0xCB#8, 0xBC#8], .res7H), ([0xCB#8, 0xBD#8], .res7L),
     ([0xCB#8, 0xBE#8], .res7AtHl), ([0xCB#8, 0xBF#8], .res7A)] = true := by decide

theorem test_decode_cb_cx : readsAll
    [([0xCB#8, 0xC0#8], .set0B), ([0xCB#8, 0xC1#8], .set0C),
     ([0xCB#8, 0xC2#8], .set0D), ([0xCB#8, 0xC3#8], .set0E),
     ([0xCB#8, 0xC4#8], .set0H), ([0xCB#8, 0xC5#8], .set0L),
     ([0xCB#8, 0xC6#8], .set0AtHl), ([0xCB#8, 0xC7#8], .set0A),
     ([0xCB#8, 0xC8#8], .set1B), ([0xCB#8, 0xC9#8], .set1C),
     ([0xCB#8, 0xCA#8], .set1D), ([0xCB#8, 0xCB#8], .set1E),
     ([0xCB#8, 0xCC#8], .set1H), ([0xCB#8, 0xCD#8], .set1L),
     ([0xCB#8, 0xCE#8], .set1AtHl), ([0xCB#8, 0xCF#8], .set1A)] = true := by decide

theorem test_decode_cb_dx : readsAll
    [([0xCB#8, 0xD0#8], .set2B), ([0xCB#8, 0xD1#8], .set2C),
     ([0xCB#8, 0xD2#8], .set2D), ([0xCB#8, 0xD3#8], .set2E),
     ([0xCB#8, 0xD4#8], .set2H), ([0xCB#8, 0xD5#8], .set2L),
     ([0xCB#8, 0xD6#8], .set2AtHl), ([0xCB#8, 0xD7#8], .set2A),
     ([0xCB#8, 0xD8#8], .set3B), ([0xCB#8, 0xD9#8], .set3C),
     ([0xCB#8, 0xDA#8], .set3D), ([0xCB#8, 0xDB#8], .set3E),
     ([0xCB#8, 0xDC#8], .set3H), ([0xCB#8, 0xDD#8], .set3L),
     ([0xCB#8, 0xDE#8], .set3AtHl), ([0xCB#8, 0xDF#8], .set3A)] = true := by decide

theorem test_decode_cb_ex : readsAll
    [([0xCB#8, 0xE0#8], .set4B), ([0xCB#8, 0xE1#8], .set4C),
     ([0xCB#8, 0xE2#8], .set4D), ([0xCB#8, 0xE3#8], .set4E),
     ([0xCB#8, 0xE4#8], .set4H), ([0xCB#8, 0xE5#8], .set4L),
     ([0xCB#8, 0xE6#8], .set4AtHl), ([0xCB#8, 0xE7#8], .set4A),
     ([0xCB#8, 0xE8#8], .set5B), ([0xCB#8, 0xE9#8], .set5C),
     ([0xCB#8, 0xEA#8], .set5D), ([0xCB#8, 0xEB#8], .set5E),
     ([0xCB#8, 0xEC#8], .set5H), ([0xCB#8, 0xED#8], .set5L),
     ([0xCB#8, 0xEE#8], .set5AtHl), ([0xCB#8, 0xEF#8], .set5A)] = true := by decide

theorem test_decode_cb_fx : readsAll
    [([0xCB#8, 0xF0#8], .set6B), ([0xCB#8, 0xF1#8], .set6C),
     ([0xCB#8, 0xF2#8], .set6D), ([0xCB#8, 0xF3#8], .set6E),
     ([0xCB#8, 0xF4#8], .set6H), ([0xCB#8, 0xF5#8], .set6L),
     ([0xCB#8, 0xF6#8], .set6AtHl), ([0xCB#8, 0xF7#8], .set6A),
     ([0xCB#8, 0xF8#8], .set7B), ([0xCB#8, 0xF9#8], .set7C),
     ([0xCB#8, 0xFA#8], .set7D), ([0xCB#8, 0xFB#8], .set7E),
     ([0xCB#8, 0xFC#8], .set7H), ([0xCB#8, 0xFD#8], .set7L),
     ([0xCB#8, 0xFE#8], .set7AtHl), ([0xCB#8, 0xFF#8], .set7A)] = true := by decide

theorem test_decode_truncated : decode [] = .error .empty ∧ decode [0xCB#8] = .error (.truncated 0xCB#8) ∧
    decode [0xCD#8, 0x34#8] = .error (.truncated 0xCD#8) := ⟨rfl, rfl, rfl⟩

/-! ### The host's numbering of a table word -/

theorem test_decodeTableWord : decodeTableWord 8 0x00 = some .nop ∧ decodeTableWord 16 0xCB37 = some .swapA ∧
    decodeTableWord 8 0x3E = some (.ldAD8 0x00#8) ∧ decodeTableWord 24 0x1234CD = some (.callA16 0x1234#16) := by decide

theorem test_withFetchWord_runs_prefixed : next (step (State.reset.withFetchWord 16 0xCB37))
    (fun t => decide (t.regs.a = 0x10#8 ∧ t.regs.pc = 0x0102#16)) = true := by decide

theorem test_withFetchWord_runs_d8 : next (step (State.reset.withFetchWord 16 0x423E))
    (fun t => decide (t.regs.a = 0x42#8 ∧ t.regs.pc = 0x0102#16)) = true := by decide

/-! ### One step: the vectors of 95_test_vectors.md sections 2.1 to 2.8, one or two for each instruction form -/

theorem test_R200_LD_B_C : ran [0x41#8]
    { State.reset with regs := { State.reset.regs with b := 0x00#8, c := 0x7F#8 } }
    (fun t => decide (t.regs = { State.reset.regs with b := 0x7F#8, c := 0x7F#8, pc := 0x0101#16 } ∧
      t.out = some { cycles := 4, frameComplete := false })) = true := by decide

theorem test_R203_LD_B_d8 : ran [0x06#8, 0x7F#8]
    State.reset
    (fun t => decide (t.regs = { State.reset.regs with pc := 0x0102#16, b := 0x7F#8 } ∧
      t.out = some { cycles := 8, frameComplete := false })) = true := by decide

theorem test_R201_LD_A_HL : ran [0x7E#8]
    { State.reset with regs := { State.reset.regs with h := 0xC0#8, l := 0x10#8 }, mem := [(0xC010, 0x99#8)] }
    (fun t => decide (t.regs = { State.reset.regs with h := 0xC0#8, l := 0x10#8, pc := 0x0101#16, a := 0x99#8 } ∧
      t.out = some { cycles := 8, frameComplete := false })) = true := by decide

theorem test_R202_LD_HL_B : ran [0x70#8]
    { State.reset with regs := { State.reset.regs with h := 0xC0#8, l := 0x00#8, b := 0x3C#8 } }
    (fun t => decide (t.regs = { State.reset.regs with h := 0xC0#8, l := 0x00#8, b := 0x3C#8, pc := 0x0101#16 } ∧
      t.readByte 0xC000#16 = 0x3C#8 ∧
      t.out = some { cycles := 8, frameComplete := false })) = true := by decide

theorem test_R204_LD_HL_d8 : ran [0x36#8, 0xA5#8]
    { State.reset with regs := { State.reset.regs with h := 0xC0#8, l := 0x00#8 } }
    (fun t => decide (t.regs = { State.reset.regs with h := 0xC0#8, l := 0x00#8, pc := 0x0102#16 } ∧
      t.readByte 0xC000#16 = 0xA5#8 ∧
      t.out = some { cycles := 12, frameComplete := false })) = true := by decide

theorem test_R205_LD_A_BC : ran [0x0A#8]
    { State.reset with regs := { State.reset.regs with b := 0xC0#8, c := 0x20#8 }, mem := [(0xC020, 0x11#8)] }
    (fun t => decide (t.regs = { State.reset.regs with b := 0xC0#8, c := 0x20#8, pc := 0x0101#16, a := 0x11#8 } ∧
      t.out = some { cycles := 8, frameComplete := false })) = true := by decide

theorem test_R206_LD_A_DE : ran [0x1A#8]
    { State.reset with regs := { State.reset.regs with d := 0xC0#8, e := 0x21#8 }, mem := [(0xC021, 0x22#8)] }
    (fun t => decide (t.regs = { State.reset.regs with d := 0xC0#8, e := 0x21#8, pc := 0x0101#16, a := 0x22#8 } ∧
      t.out = some { cycles := 8, frameComplete := false })) = true := by decide

theorem test_R207_LD_BC_A : ran [0x02#8]
    { State.reset with regs := { State.reset.regs with b := 0xC0#8, c := 0x20#8, a := 0x33#8 } }
    (fun t => decide (t.regs = { State.reset.regs with b := 0xC0#8, c := 0x20#8, a := 0x33#8, pc := 0x0101#16 } ∧
      t.readByte 0xC020#16 = 0x33#8 ∧
      t.out = some { cycles := 8, frameComplete := false })) = true := by decide

theorem test_R208_LD_DE_A : ran [0x12#8]
    { State.reset with regs := { State.reset.regs with d := 0xC0#8, e := 0x21#8, a := 0x44#8 } }
    (fun t => decide (t.regs = { State.reset.regs with d := 0xC0#8, e := 0x21#8, a := 0x44#8, pc := 0x0101#16 } ∧
      t.readByte 0xC021#16 = 0x44#8 ∧
      t.out = some { cycles := 8, frameComplete := false })) = true := by decide

theorem test_R209_LD_A_HLPlus : ran [0x2A#8]
    { State.reset with regs := { State.reset.regs with h := 0xC0#8, l := 0xFF#8 }, mem := [(0xC0FF, 0x55#8)] }
    (fun t => decide (t.regs = { State.reset.regs with h := 0xC1#8, l := 0x00#8, pc := 0x0101#16, a := 0x55#8 } ∧
      t.out = some { cycles := 8, frameComplete := false })) = true := by decide

theorem test_R210_LD_A_HLMinus : ran [0x3A#8]
    { State.reset with regs := { State.reset.regs with h := 0xC0#8, l := 0x00#8 }, mem := [(0xC000, 0x66#8)] }
    (fun t => decide (t.regs = { State.reset.regs with h := 0xBF#8, l := 0xFF#8, pc := 0x0101#16, a := 0x66#8 } ∧
      t.out = some { cycles := 8, frameComplete := false })) = true := by decide

theorem test_R211_LD_HLPlus_A : ran [0x22#8]
    { State.reset with regs := { State.reset.regs with h := 0xC0#8, l := 0x00#8, a := 0x77#8 } }
    (fun t => decide (t.regs = { State.reset.regs with h := 0xC0#8, l := 0x01#8, a := 0x77#8, pc := 0x0101#16 } ∧
      t.readByte 0xC000#16 = 0x77#8 ∧
      t.out = some { cycles := 8, frameComplete := false })) = true := by decide

theorem test_R212_LD_HLMinus_A : ran [0x32#8]
    { State.reset with regs := { State.reset.regs with h := 0xC0#8, l := 0x00#8, a := 0x88#8 } }
    (fun t => decide (t.regs = { State.reset.regs with h := 0xBF#8, l := 0xFF#8, a := 0x88#8, pc := 0x0101#16 } ∧
      t.readByte 0xC000#16 = 0x88#8 ∧
      t.out = some { cycles := 8, frameComplete := false })) = true := by decide

theorem test_R213_LD_A_a16 : ran [0xFA#8, 0x00#8, 0xC1#8]
    { State.reset with mem := [(0xC100, 0xAB#8)] }
    (fun t => decide (t.regs = { State.reset.regs with pc := 0x0103#16, a := 0xAB#8 } ∧
      t.out = some { cycles := 16, frameComplete := false })) = true := by decide

theorem test_R214_LD_a16_A : ran [0xEA#8, 0x00#8, 0xC1#8]
    { State.reset with regs := { State.reset.regs with a := 0xCD#8 } }
    (fun t => decide (t.regs = { State.reset.regs with a := 0xCD#8, pc := 0x0103#16 } ∧
      t.readByte 0xC100#16 = 0xCD#8 ∧
      t.out = some { cycles := 16, frameComplete := false })) = true := by decide

theorem test_R216_LDH_a8_A : ran [0xE0#8, 0x80#8]
    { State.reset with regs := { State.reset.regs with a := 0x12#8 } }
    (fun t => decide (t.regs = { State.reset.regs with a := 0x12#8, pc := 0x0102#16 } ∧
      t.readByte 0xFF80#16 = 0x12#8 ∧
      t.out = some { cycles := 12, frameComplete := false })) = true := by decide

theorem test_R215_LDH_A_a8 : ran [0xF0#8, 0x44#8]
    State.reset
    (fun t => decide (t.regs = { State.reset.regs with pc := 0x0102#16, a := 0x00#8 } ∧
      t.out = some { cycles := 12, frameComplete := false })) = true := by decide

theorem test_R215_LDH_A_a8_2 : ran [0xF0#8, 0x0F#8]
    State.reset
    (fun t => decide (t.regs = { State.reset.regs with pc := 0x0102#16, a := 0xE1#8 } ∧
      t.out = some { cycles := 12, frameComplete := false })) = true := by decide

theorem test_R218_LD_C_A : ran [0xE2#8]
    { State.reset with regs := { State.reset.regs with c := 0x85#8, a := 0x34#8 } }
    (fun t => decide (t.regs = { State.reset.regs with c := 0x85#8, a := 0x34#8, pc := 0x0101#16 } ∧
      t.readByte 0xFF85#16 = 0x34#8 ∧
      t.out = some { cycles := 8, frameComplete := false })) = true := by decide

theorem test_R217_LD_A_C : ran [0xF2#8]
    { State.reset with regs := { State.reset.regs with c := 0x41#8 } }
    (fun t => decide (t.regs = { State.reset.regs with c := 0x41#8, pc := 0x0101#16, a := 0x86#8 } ∧
      t.out = some { cycles := 8, frameComplete := false })) = true := by decide

theorem test_R202_LD_HL_A : ran [0x77#8]
    { State.reset with regs := { State.reset.regs with h := 0x20#8, l := 0x00#8, a := 0x5A#8 } }
    (fun t => decide (t.regs = { State.reset.regs with h := 0x20#8, l := 0x00#8, a := 0x5A#8, pc := 0x0101#16 } ∧
      t.out = some { cycles := 8, frameComplete := false })) = true := by decide

theorem test_R230_LD_BC_d16 : ran [0x01#8, 0x34#8, 0x12#8]
    State.reset
    (fun t => decide (t.regs = { State.reset.regs with pc := 0x0103#16, b := 0x12#8, c := 0x34#8 } ∧
      t.out = some { cycles := 12, frameComplete := false })) = true := by decide

theorem test_R231_LD_a16_SP : ran [0x08#8, 0x00#8, 0xC1#8]
    { State.reset with regs := { State.reset.regs with sp := 0xFFF8#16 } }
    (fun t => decide (t.regs = { State.reset.regs with sp := 0xFFF8#16, pc := 0x0103#16 } ∧
      t.readByte 0xC100#16 = 0xF8#8 ∧
      t.readByte 0xC101#16 = 0xFF#8 ∧
      t.out = some { cycles := 20, frameComplete := false })) = true := by decide

theorem test_R232_LD_SP_HL : ran [0xF9#8]
    { State.reset with regs := { State.reset.regs with h := 0xC0#8, l := 0x00#8 } }
    (fun t => decide (t.regs = { State.reset.regs with h := 0xC0#8, l := 0x00#8, pc := 0x0101#16, sp := 0xC000#16 } ∧
      t.out = some { cycles := 8, frameComplete := false })) = true := by decide

theorem test_R233_LD_HL_SPPluse8 : ran [0xF8#8, 0x02#8]
    { State.reset with regs := { State.reset.regs with sp := 0xFFF8#16 } }
    (fun t => decide (t.regs = { State.reset.regs with sp := 0xFFF8#16, pc := 0x0102#16, f := fl 0x00#8, h := 0xFF#8, l := 0xFA#8 } ∧
      t.out = some { cycles := 12, frameComplete := false })) = true := by decide

theorem test_R233_LD_HL_SPPluse8_2 : ran [0xF8#8, 0xFF#8]
    { State.reset with regs := { State.reset.regs with sp := 0x0001#16 } }
    (fun t => decide (t.regs = { State.reset.regs with sp := 0x0001#16, pc := 0x0102#16, f := fl 0x30#8, h := 0x00#8, l := 0x00#8 } ∧
      t.out = some { cycles := 12, frameComplete := false })) = true := by decide

theorem test_R234_PUSH_BC : ran [0xC5#8]
    { State.reset with regs := { State.reset.regs with b := 0x12#8, c := 0x34#8 } }
    (fun t => decide (t.regs = { State.reset.regs with b := 0x12#8, c := 0x34#8, pc := 0x0101#16, sp := 0xFFFC#16 } ∧
      t.readByte 0xFFFD#16 = 0x12#8 ∧
      t.readByte 0xFFFC#16 = 0x34#8 ∧
      t.out = some { cycles := 16, frameComplete := false })) = true := by decide

theorem test_R235_PUSH_AF : ran [0xF5#8]
    { State.reset with regs := { State.reset.regs with a := 0x12#8, f := fl 0xB0#8 } }
    (fun t => decide (t.regs = { State.reset.regs with a := 0x12#8, f := fl 0xB0#8, pc := 0x0101#16, sp := 0xFFFC#16 } ∧
      t.readByte 0xFFFD#16 = 0x12#8 ∧
      t.readByte 0xFFFC#16 = 0xB0#8 ∧
      t.out = some { cycles := 16, frameComplete := false })) = true := by decide

theorem test_R236_POP_BC : ran [0xC1#8]
    { State.reset with regs := { State.reset.regs with sp := 0xC000#16 }, mem := [(0xC000, 0x34#8), (0xC001, 0x12#8)] }
    (fun t => decide (t.regs = { State.reset.regs with sp := 0xC002#16, pc := 0x0101#16, b := 0x12#8, c := 0x34#8 } ∧
      t.out = some { cycles := 12, frameComplete := false })) = true := by decide

theorem test_R237_POP_AF : ran [0xF1#8]
    { State.reset with regs := { State.reset.regs with sp := 0xC000#16 }, mem := [(0xC000, 0xFF#8), (0xC001, 0x12#8)] }
    (fun t => decide (t.regs = { State.reset.regs with sp := 0xC002#16, pc := 0x0101#16, a := 0x12#8, f := fl 0xF0#8 } ∧
      t.out = some { cycles := 12, frameComplete := false })) = true := by decide

theorem test_R234_PUSH_DE : ran [0xD5#8]
    { State.reset with regs := { State.reset.regs with sp := 0x0001#16, d := 0xAB#8, e := 0xCD#8 } }
    (fun t => decide (t.regs = { State.reset.regs with sp := 0xFFFF#16, d := 0xAB#8, e := 0xCD#8, pc := 0x0101#16 } ∧
      t.irq.ie = 0xCD#8 ∧
      t.irq.ie = 0xCD#8 ∧
      t.out = some { cycles := 16, frameComplete := false })) = true := by decide

theorem test_R251_ADD_A_B : ran [0x80#8]
    { State.reset with regs := { State.reset.regs with a := 0x3A#8, b := 0xC6#8, f := fl 0x00#8 } }
    (fun t => decide (t.regs = { State.reset.regs with a := 0x00#8, b := 0xC6#8, f := fl 0xB0#8, pc := 0x0101#16 } ∧
      t.out = some { cycles := 4, frameComplete := false })) = true := by decide

theorem test_R254_ADC_A_B : ran [0x88#8]
    { State.reset with regs := { State.reset.regs with a := 0xE1#8, b := 0x0F#8, f := fl 0x10#8 } }
    (fun t => decide (t.regs = { State.reset.regs with a := 0xF1#8, b := 0x0F#8, f := fl 0x20#8, pc := 0x0101#16 } ∧
      t.out = some { cycles := 4, frameComplete := false })) = true := by decide

theorem test_R254_ADC_A_B_2 : ran [0x88#8]
    { State.reset with regs := { State.reset.regs with a := 0xFF#8, b := 0x00#8, f := fl 0x10#8 } }
    (fun t => decide (t.regs = { State.reset.regs with a := 0x00#8, b := 0x00#8, f := fl 0xB0#8, pc := 0x0101#16 } ∧
      t.out = some { cycles := 4, frameComplete := false })) = true := by decide

theorem test_R252_ADD_A_HL : ran [0x86#8]
    { State.reset with regs := { State.reset.regs with a := 0x01#8, h := 0xC0#8, l := 0x00#8, f := fl 0x00#8 }, mem := [(0xC000, 0xFF#8)] }
    (fun t => decide (t.regs = { State.reset.regs with a := 0x00#8, h := 0xC0#8, l := 0x00#8, f := fl 0xB0#8, pc := 0x0101#16 } ∧
      t.out = some { cycles := 8, frameComplete := false })) = true := by decide

theorem test_R253_ADD_A_d8 : ran [0xC6#8, 0x01#8]
    { State.reset with regs := { State.reset.regs with a := 0xFF#8, f := fl 0x00#8 } }
    (fun t => decide (t.regs = { State.reset.regs with a := 0x00#8, f := fl 0xB0#8, pc := 0x0102#16 } ∧
      t.out = some { cycles := 8, frameComplete := false })) = true := by decide

theorem test_R256_ADC_A_d8 : ran [0xCE#8, 0x0F#8]
    { State.reset with regs := { State.reset.regs with a := 0x00#8, f := fl 0x10#8 } }
    (fun t => decide (t.regs = { State.reset.regs with a := 0x10#8, f := fl 0x20#8, pc := 0x0102#16 } ∧
      t.out = some { cycles := 8, frameComplete := false })) = true := by decide

theorem test_R257_SUB_B : ran [0x90#8]
    { State.reset with regs := { State.reset.regs with a := 0x3E#8, b := 0x3E#8, f := fl 0x00#8 } }
    (fun t => decide (t.regs = { State.reset.regs with a := 0x00#8, b := 0x3E#8, f := fl 0xC0#8, pc := 0x0101#16 } ∧
      t.out = some { cycles := 4, frameComplete := false })) = true := by decide

theorem test_R260_SBC_A_B : ran [0x98#8]
    { State.reset with regs := { State.reset.regs with a := 0x3B#8, b := 0x2A#8, f := fl 0x10#8 } }
    (fun t => decide (t.regs = { State.reset.regs with a := 0x10#8, b := 0x2A#8, f := fl 0x40#8, pc := 0x0101#16 } ∧
      t.out = some { cycles := 4, frameComplete := false })) = true := by decide

theorem test_R262_SBC_A_d8 : ran [0xDE#8, 0x01#8]
    { State.reset with regs := { State.reset.regs with a := 0x01#8, f := fl 0x10#8 } }
    (fun t => decide (t.regs = { State.reset.regs with a := 0xFF#8, f := fl 0x70#8, pc := 0x0102#16 } ∧
      t.out = some { cycles := 8, frameComplete := false })) = true := by decide

theorem test_R259_SUB_d8 : ran [0xD6#8, 0x01#8]
    { State.reset with regs := { State.reset.regs with a := 0x00#8, f := fl 0x00#8 } }
    (fun t => decide (t.regs = { State.reset.regs with a := 0xFF#8, f := fl 0x70#8, pc := 0x0102#16 } ∧
      t.out = some { cycles := 8, frameComplete := false })) = true := by decide

theorem test_R263_AND_B : ran [0xA0#8]
    { State.reset with regs := { State.reset.regs with a := 0x5A#8, b := 0x3F#8, f := fl 0x10#8 } }
    (fun t => decide (t.regs = { State.reset.regs with a := 0x1A#8, b := 0x3F#8, f := fl 0x20#8, pc := 0x0101#16 } ∧
      t.out = some { cycles := 4, frameComplete := false })) = true := by decide

theorem test_R265_AND_d8 : ran [0xE6#8, 0x0F#8]
    { State.reset with regs := { State.reset.regs with a := 0xF0#8, f := fl 0x00#8 } }
    (fun t => decide (t.regs = { State.reset.regs with a := 0x00#8, f := fl 0xA0#8, pc := 0x0102#16 } ∧
      t.out = some { cycles := 8, frameComplete := false })) = true := by decide

theorem test_R266_XOR_A : ran [0xAF#8]
    { State.reset with regs := { State.reset.regs with a := 0x5A#8, f := fl 0x70#8 } }
    (fun t => decide (t.regs = { State.reset.regs with a := 0x00#8, f := fl 0x80#8, pc := 0x0101#16 } ∧
      t.out = some { cycles := 4, frameComplete := false })) = true := by decide

theorem test_R268_XOR_d8 : ran [0xEE#8, 0xFF#8]
    { State.reset with regs := { State.reset.regs with a := 0x0F#8, f := fl 0x00#8 } }
    (fun t => decide (t.regs = { State.reset.regs with a := 0xF0#8, f := fl 0x00#8, pc := 0x0102#16 } ∧
      t.out = some { cycles := 8, frameComplete := false })) = true := by decide

theorem test_R269_OR_B : ran [0xB0#8]
    { State.reset with regs := { State.reset.regs with a := 0x00#8, b := 0x00#8, f := fl 0x30#8 } }
    (fun t => decide (t.regs = { State.reset.regs with a := 0x00#8, b := 0x00#8, f := fl 0x80#8, pc := 0x0101#16 } ∧
      t.out = some { cycles := 4, frameComplete := false })) = true := by decide

theorem test_R270_OR_HL : ran [0xB6#8]
    { State.reset with regs := { State.reset.regs with a := 0x50#8, h := 0xC0#8, l := 0x00#8, f := fl 0x00#8 }, mem := [(0xC000, 0x05#8)] }
    (fun t => decide (t.regs = { State.reset.regs with a := 0x55#8, h := 0xC0#8, l := 0x00#8, f := fl 0x00#8, pc := 0x0101#16 } ∧
      t.out = some { cycles := 8, frameComplete := false })) = true := by decide

theorem test_R271_OR_d8 : ran [0xF6#8, 0x80#8]
    { State.reset with regs := { State.reset.regs with a := 0x01#8, f := fl 0x00#8 } }
    (fun t => decide (t.regs = { State.reset.regs with a := 0x81#8, f := fl 0x00#8, pc := 0x0102#16 } ∧
      t.out = some { cycles := 8, frameComplete := false })) = true := by decide

theorem test_R272_CP_B : ran [0xB8#8]
    { State.reset with regs := { State.reset.regs with a := 0x3C#8, b := 0x2F#8, f := fl 0x00#8 } }
    (fun t => decide (t.regs = { State.reset.regs with a := 0x3C#8, b := 0x2F#8, f := fl 0x60#8, pc := 0x0101#16 } ∧
      t.out = some { cycles := 4, frameComplete := false })) = true := by decide

theorem test_R274_CP_d8 : ran [0xFE#8, 0x40#8]
    { State.reset with regs := { State.reset.regs with a := 0x3C#8, f := fl 0x00#8 } }
    (fun t => decide (t.regs = { State.reset.regs with a := 0x3C#8, f := fl 0x50#8, pc := 0x0102#16 } ∧
      t.out = some { cycles := 8, frameComplete := false })) = true := by decide

theorem test_R273_CP_HL : ran [0xBE#8]
    { State.reset with regs := { State.reset.regs with a := 0x3C#8, h := 0xC0#8, l := 0x00#8, f := fl 0x00#8 }, mem := [(0xC000, 0x3C#8)] }
    (fun t => decide (t.regs = { State.reset.regs with a := 0x3C#8, h := 0xC0#8, l := 0x00#8, f := fl 0xC0#8, pc := 0x0101#16 } ∧
      t.out = some { cycles := 8, frameComplete := false })) = true := by decide

theorem test_R275_INC_A : ran [0x3C#8]
    { State.reset with regs := { State.reset.regs with a := 0xFF#8, f := fl 0x10#8 } }
    (fun t => decide (t.regs = { State.reset.regs with a := 0x00#8, f := fl 0xB0#8, pc := 0x0101#16 } ∧
      t.out = some { cycles := 4, frameComplete := false })) = true := by decide

theorem test_R277_DEC_A : ran [0x3D#8]
    { State.reset with regs := { State.reset.regs with a := 0x01#8, f := fl 0x00#8 } }
    (fun t => decide (t.regs = { State.reset.regs with a := 0x00#8, f := fl 0xC0#8, pc := 0x0101#16 } ∧
      t.out = some { cycles := 4, frameComplete := false })) = true := by decide

theorem test_R276_INC_HL : ran [0x34#8]
    { State.reset with regs := { State.reset.regs with h := 0xC0#8, l := 0x00#8, f := fl 0x00#8 }, mem := [(0xC000, 0xFF#8)] }
    (fun t => decide (t.regs = { State.reset.regs with h := 0xC0#8, l := 0x00#8, f := fl 0xA0#8, pc := 0x0101#16 } ∧
      t.readByte 0xC000#16 = 0x00#8 ∧
      t.out = some { cycles := 12, frameComplete := false })) = true := by decide

theorem test_R278_DEC_HL : ran [0x35#8]
    { State.reset with regs := { State.reset.regs with h := 0xC0#8, l := 0x00#8, f := fl 0x10#8 }, mem := [(0xC000, 0x01#8)] }
    (fun t => decide (t.regs = { State.reset.regs with h := 0xC0#8, l := 0x00#8, f := fl 0xD0#8, pc := 0x0101#16 } ∧
      t.readByte 0xC000#16 = 0x00#8 ∧
      t.out = some { cycles := 12, frameComplete := false })) = true := by decide

theorem test_R279_DAA : ran [0x27#8]
    { State.reset with regs := { State.reset.regs with a := 0x9A#8, f := fl 0x00#8 } }
    (fun t => decide (t.regs = { State.reset.regs with a := 0x00#8, f := fl 0x90#8, pc := 0x0101#16 } ∧
      t.out = some { cycles := 4, frameComplete := false })) = true := by decide

theorem test_R279_DAA_2 : ran [0x27#8]
    { State.reset with regs := { State.reset.regs with a := 0x00#8, f := fl 0x20#8 } }
    (fun t => decide (t.regs = { State.reset.regs with a := 0x06#8, f := fl 0x00#8, pc := 0x0101#16 } ∧
      t.out = some { cycles := 4, frameComplete := false })) = true := by decide

theorem test_R279_DAA_3 : ran [0x27#8]
    { State.reset with regs := { State.reset.regs with a := 0xF0#8, f := fl 0x10#8 } }
    (fun t => decide (t.regs = { State.reset.regs with a := 0x50#8, f := fl 0x10#8, pc := 0x0101#16 } ∧
      t.out = some { cycles := 4, frameComplete := false })) = true := by decide

theorem test_R280_CPL : ran [0x2F#8]
    { State.reset with regs := { State.reset.regs with a := 0x35#8, f := fl 0x00#8 } }
    (fun t => decide (t.regs = { State.reset.regs with a := 0xCA#8, f := fl 0x60#8, pc := 0x0101#16 } ∧
      t.out = some { cycles := 4, frameComplete := false })) = true := by decide

theorem test_R281_SCF : ran [0x37#8]
    { State.reset with regs := { State.reset.regs with f := fl 0x80#8 } }
    (fun t => decide (t.regs = { State.reset.regs with f := fl 0x90#8, pc := 0x0101#16 } ∧
      t.out = some { cycles := 4, frameComplete := false })) = true := by decide

theorem test_R282_CCF : ran [0x3F#8]
    { State.reset with regs := { State.reset.regs with f := fl 0x10#8 } }
    (fun t => decide (t.regs = { State.reset.regs with f := fl 0x00#8, pc := 0x0101#16 } ∧
      t.out = some { cycles := 4, frameComplete := false })) = true := by decide

theorem test_R300_ADD_HL_DE : ran [0x19#8]
    { State.reset with regs := { State.reset.regs with h := 0x0F#8, l := 0xFF#8, d := 0x00#8, e := 0x01#8, f := fl 0x80#8 } }
    (fun t => decide (t.regs = { State.reset.regs with h := 0x10#8, l := 0x00#8, d := 0x00#8, e := 0x01#8, f := fl 0xA0#8, pc := 0x0101#16 } ∧
      t.out = some { cycles := 8, frameComplete := false })) = true := by decide

theorem test_R301_INC_BC : ran [0x03#8]
    { State.reset with regs := { State.reset.regs with b := 0xFF#8, c := 0xFF#8, f := fl 0xB0#8 } }
    (fun t => decide (t.regs = { State.reset.regs with b := 0x00#8, c := 0x00#8, f := fl 0xB0#8, pc := 0x0101#16 } ∧
      t.out = some { cycles := 8, frameComplete := false })) = true := by decide

theorem test_R302_DEC_SP : ran [0x3B#8]
    { State.reset with regs := { State.reset.regs with sp := 0x0000#16 } }
    (fun t => decide (t.regs = { State.reset.regs with sp := 0xFFFF#16, pc := 0x0101#16 } ∧
      t.out = some { cycles := 8, frameComplete := false })) = true := by decide

theorem test_R303_ADD_SP_e8 : ran [0xE8#8, 0xF0#8]
    { State.reset with regs := { State.reset.regs with sp := 0xFFFF#16, f := fl 0x00#8 } }
    (fun t => decide (t.regs = { State.reset.regs with sp := 0xFFEF#16, f := fl 0x10#8, pc := 0x0102#16 } ∧
      t.out = some { cycles := 16, frameComplete := false })) = true := by decide

theorem test_R310_RLCA : ran [0x07#8]
    { State.reset with regs := { State.reset.regs with a := 0x85#8, f := fl 0x00#8 } }
    (fun t => decide (t.regs = { State.reset.regs with a := 0x0B#8, f := fl 0x10#8, pc := 0x0101#16 } ∧
      t.out = some { cycles := 4, frameComplete := false })) = true := by decide

theorem test_R311_RRCA : ran [0x0F#8]
    { State.reset with regs := { State.reset.regs with a := 0x01#8, f := fl 0x00#8 } }
    (fun t => decide (t.regs = { State.reset.regs with a := 0x80#8, f := fl 0x10#8, pc := 0x0101#16 } ∧
      t.out = some { cycles := 4, frameComplete := false })) = true := by decide

theorem test_R312_RLA : ran [0x17#8]
    { State.reset with regs := { State.reset.regs with a := 0x80#8, f := fl 0x00#8 } }
    (fun t => decide (t.regs = { State.reset.regs with a := 0x00#8, f := fl 0x10#8, pc := 0x0101#16 } ∧
      t.out = some { cycles := 4, frameComplete := false })) = true := by decide

theorem test_R313_RRA : ran [0x1F#8]
    { State.reset with regs := { State.reset.regs with a := 0x01#8, f := fl 0x00#8 } }
    (fun t => decide (t.regs = { State.reset.regs with a := 0x00#8, f := fl 0x10#8, pc := 0x0101#16 } ∧
      t.out = some { cycles := 4, frameComplete := false })) = true := by decide

theorem test_R315_RLC_B : ran [0xCB#8, 0x00#8]
    { State.reset with regs := { State.reset.regs with b := 0x85#8, f := fl 0x00#8 } }
    (fun t => decide (t.regs = { State.reset.regs with b := 0x0B#8, f := fl 0x10#8, pc := 0x0102#16 } ∧
      t.out = some { cycles := 8, frameComplete := false })) = true := by decide

theorem test_R317_RRC_C : ran [0xCB#8, 0x09#8]
    { State.reset with regs := { State.reset.regs with c := 0x01#8, f := fl 0x00#8 } }
    (fun t => decide (t.regs = { State.reset.regs with c := 0x80#8, f := fl 0x10#8, pc := 0x0102#16 } ∧
      t.out = some { cycles := 8, frameComplete := false })) = true := by decide

theorem test_R319_RL_D : ran [0xCB#8, 0x12#8]
    { State.reset with regs := { State.reset.regs with d := 0x80#8, f := fl 0x00#8 } }
    (fun t => decide (t.regs = { State.reset.regs with d := 0x00#8, f := fl 0x90#8, pc := 0x0102#16 } ∧
      t.out = some { cycles := 8, frameComplete := false })) = true := by decide

theorem test_R321_RR_E : ran [0xCB#8, 0x1B#8]
    { State.reset with regs := { State.reset.regs with e := 0x01#8, f := fl 0x00#8 } }
    (fun t => decide (t.regs = { State.reset.regs with e := 0x00#8, f := fl 0x90#8, pc := 0x0102#16 } ∧
      t.out = some { cycles := 8, frameComplete := false })) = true := by decide

theorem test_R323_SLA_H : ran [0xCB#8, 0x24#8]
    { State.reset with regs := { State.reset.regs with h := 0x80#8, f := fl 0x00#8 } }
    (fun t => decide (t.regs = { State.reset.regs with h := 0x00#8, f := fl 0x90#8, pc := 0x0102#16 } ∧
      t.out = some { cycles := 8, frameComplete := false })) = true := by decide

theorem test_R325_SRA_A : ran [0xCB#8, 0x2F#8]
    { State.reset with regs := { State.reset.regs with a := 0x81#8, f := fl 0x00#8 } }
    (fun t => decide (t.regs = { State.reset.regs with a := 0xC0#8, f := fl 0x10#8, pc := 0x0102#16 } ∧
      t.out = some { cycles := 8, frameComplete := false })) = true := by decide

theorem test_R327_SWAP_A : ran [0xCB#8, 0x37#8]
    { State.reset with regs := { State.reset.regs with a := 0xF1#8, f := fl 0x00#8 } }
    (fun t => decide (t.regs = { State.reset.regs with a := 0x1F#8, f := fl 0x00#8, pc := 0x0102#16 } ∧
      t.out = some { cycles := 8, frameComplete := false })) = true := by decide

theorem test_R329_SRL_A : ran [0xCB#8, 0x3F#8]
    { State.reset with regs := { State.reset.regs with a := 0x01#8, f := fl 0x00#8 } }
    (fun t => decide (t.regs = { State.reset.regs with a := 0x00#8, f := fl 0x90#8, pc := 0x0102#16 } ∧
      t.out = some { cycles := 8, frameComplete := false })) = true := by decide

theorem test_R316_RLC_HL : ran [0xCB#8, 0x06#8]
    { State.reset with regs := { State.reset.regs with h := 0xC0#8, l := 0x00#8, f := fl 0x00#8 }, mem := [(0xC000, 0x8A#8)] }
    (fun t => decide (t.regs = { State.reset.regs with h := 0xC0#8, l := 0x00#8, f := fl 0x10#8, pc := 0x0102#16 } ∧
      t.readByte 0xC000#16 = 0x15#8 ∧
      t.out = some { cycles := 16, frameComplete := false })) = true := by decide

theorem test_R320_RL_HL : ran [0xCB#8, 0x16#8]
    { State.reset with regs := { State.reset.regs with h := 0xC0#8, l := 0x00#8, f := fl 0x10#8 }, mem := [(0xC000, 0x8A#8)] }
    (fun t => decide (t.regs = { State.reset.regs with h := 0xC0#8, l := 0x00#8, f := fl 0x10#8, pc := 0x0102#16 } ∧
      t.readByte 0xC000#16 = 0x15#8 ∧
      t.out = some { cycles := 16, frameComplete := false })) = true := by decide

theorem test_R326_SRA_HL : ran [0xCB#8, 0x2E#8]
    { State.reset with regs := { State.reset.regs with h := 0xC0#8, l := 0x00#8, f := fl 0x00#8 }, mem := [(0xC000, 0x8A#8)] }
    (fun t => decide (t.regs = { State.reset.regs with h := 0xC0#8, l := 0x00#8, f := fl 0x00#8, pc := 0x0102#16 } ∧
      t.readByte 0xC000#16 = 0xC5#8 ∧
      t.out = some { cycles := 16, frameComplete := false })) = true := by decide

theorem test_R328_SWAP_HL : ran [0xCB#8, 0x36#8]
    { State.reset with regs := { State.reset.regs with h := 0xC0#8, l := 0x00#8, f := fl 0x00#8 }, mem := [(0xC000, 0x8A#8)] }
    (fun t => decide (t.regs = { State.reset.regs with h := 0xC0#8, l := 0x00#8, f := fl 0x00#8, pc := 0x0102#16 } ∧
      t.readByte 0xC000#16 = 0xA8#8 ∧
      t.out = some { cycles := 16, frameComplete := false })) = true := by decide

theorem test_R330_SRL_HL : ran [0xCB#8, 0x3E#8]
    { State.reset with regs := { State.reset.regs with h := 0xC0#8, l := 0x00#8, f := fl 0x00#8 }, mem := [(0xC000, 0x8A#8)] }
    (fun t => decide (t.regs = { State.reset.regs with h := 0xC0#8, l := 0x00#8, f := fl 0x00#8, pc := 0x0102#16 } ∧
      t.readByte 0xC000#16 = 0x45#8 ∧
      t.out = some { cycles := 16, frameComplete := false })) = true := by decide

theorem test_R340_BIT_7_H : ran [0xCB#8, 0x7C#8]
    { State.reset with regs := { State.reset.regs with h := 0x80#8, f := fl 0x10#8 } }
    (fun t => decide (t.regs = { State.reset.regs with h := 0x80#8, f := fl 0x30#8, pc := 0x0102#16 } ∧
      t.out = some { cycles := 8, frameComplete := false })) = true := by decide

theorem test_R341_BIT_3_HL : ran [0xCB#8, 0x5E#8]
    { State.reset with regs := { State.reset.regs with h := 0xC0#8, l := 0x00#8, f := fl 0x00#8 }, mem := [(0xC000, 0x08#8)] }
    (fun t => decide (t.regs = { State.reset.regs with h := 0xC0#8, l := 0x00#8, f := fl 0x20#8, pc := 0x0102#16 } ∧
      t.out = some { cycles := 12, frameComplete := false })) = true := by decide

theorem test_R342_RES_0_A : ran [0xCB#8, 0x87#8]
    { State.reset with regs := { State.reset.regs with a := 0xFF#8, f := fl 0x00#8 } }
    (fun t => decide (t.regs = { State.reset.regs with a := 0xFE#8, f := fl 0x00#8, pc := 0x0102#16 } ∧
      t.out = some { cycles := 8, frameComplete := false })) = true := by decide

theorem test_R343_RES_7_HL : ran [0xCB#8, 0xBE#8]
    { State.reset with regs := { State.reset.regs with h := 0xC0#8, l := 0x00#8, f := fl 0xF0#8 }, mem := [(0xC000, 0xFF#8)] }
    (fun t => decide (t.regs = { State.reset.regs with h := 0xC0#8, l := 0x00#8, f := fl 0xF0#8, pc := 0x0102#16 } ∧
      t.readByte 0xC000#16 = 0x7F#8 ∧
      t.out = some { cycles := 16, frameComplete := false })) = true := by decide

theorem test_R345_SET_7_HL : ran [0xCB#8, 0xFE#8]
    { State.reset with regs := { State.reset.regs with h := 0xC0#8, l := 0x00#8, f := fl 0x00#8 }, mem := [(0xC000, 0x00#8)] }
    (fun t => decide (t.regs = { State.reset.regs with h := 0xC0#8, l := 0x00#8, f := fl 0x00#8, pc := 0x0102#16 } ∧
      t.readByte 0xC000#16 = 0x80#8 ∧
      t.out = some { cycles := 16, frameComplete := false })) = true := by decide

theorem test_R344_SET_0_B : ran [0xCB#8, 0xC0#8]
    { State.reset with regs := { State.reset.regs with b := 0x00#8 } }
    (fun t => decide (t.regs = { State.reset.regs with b := 0x01#8, pc := 0x0102#16 } ∧
      t.out = some { cycles := 8, frameComplete := false })) = true := by decide

theorem test_R351_JP_a16 : ran [0xC3#8, 0x50#8, 0x01#8]
    State.reset
    (fun t => decide (t.regs = { State.reset.regs with pc := 0x0150#16 } ∧
      t.out = some { cycles := 16, frameComplete := false })) = true := by decide

theorem test_R352_JP_NZ_a16 : ran [0xC2#8, 0x50#8, 0x01#8]
    { State.reset with regs := { State.reset.regs with f := fl 0x00#8 } }
    (fun t => decide (t.regs = { State.reset.regs with f := fl 0x00#8, pc := 0x0150#16 } ∧
      t.out = some { cycles := 16, frameComplete := false })) = true := by decide

theorem test_R353_JP_HL : ran [0xE9#8]
    { State.reset with regs := { State.reset.regs with h := 0xC0#8, l := 0x00#8 } }
    (fun t => decide (t.regs = { State.reset.regs with h := 0xC0#8, l := 0x00#8, pc := 0xC000#16 } ∧
      t.out = some { cycles := 4, frameComplete := false })) = true := by decide

theorem test_R354_JR_e8 : ran [0x18#8, 0x05#8]
    State.reset
    (fun t => decide (t.regs = { State.reset.regs with pc := 0x0107#16 } ∧
      t.out = some { cycles := 12, frameComplete := false })) = true := by decide

theorem test_R355_JR_C_e8 : ran [0x38#8, 0x80#8]
    { State.reset with regs := { State.reset.regs with f := fl 0x10#8 } }
    (fun t => decide (t.regs = { State.reset.regs with f := fl 0x10#8, pc := 0x0082#16 } ∧
      t.out = some { cycles := 12, frameComplete := false })) = true := by decide

theorem test_R355_JR_C_e8_2 : ran [0x38#8, 0x80#8]
    { State.reset with regs := { State.reset.regs with f := fl 0x00#8 } }
    (fun t => decide (t.regs = { State.reset.regs with f := fl 0x00#8, pc := 0x0102#16 } ∧
      t.out = some { cycles := 8, frameComplete := false })) = true := by decide

theorem test_R356_CALL_a16 : ran [0xCD#8, 0x34#8, 0x12#8]
    State.reset
    (fun t => decide (t.regs = { State.reset.regs with pc := 0x1234#16, sp := 0xFFFC#16 } ∧
      t.readByte 0xFFFD#16 = 0x01#8 ∧
      t.readByte 0xFFFC#16 = 0x03#8 ∧
      t.out = some { cycles := 24, frameComplete := false })) = true := by decide

theorem test_R357_CALL_Z_a16 : ran [0xCC#8, 0x34#8, 0x12#8]
    { State.reset with regs := { State.reset.regs with f := fl 0x80#8 } }
    (fun t => decide (t.regs = { State.reset.regs with f := fl 0x80#8, pc := 0x1234#16, sp := 0xFFFC#16 } ∧
      t.readByte 0xFFFD#16 = 0x01#8 ∧
      t.readByte 0xFFFC#16 = 0x03#8 ∧
      t.out = some { cycles := 24, frameComplete := false })) = true := by decide

theorem test_R358_RET : ran [0xC9#8]
    { State.reset with regs := { State.reset.regs with sp := 0xC000#16 }, mem := [(0xC000, 0x03#8), (0xC001, 0x02#8)] }
    (fun t => decide (t.regs = { State.reset.regs with sp := 0xC002#16, pc := 0x0203#16 } ∧
      t.out = some { cycles := 16, frameComplete := false })) = true := by decide

theorem test_R359_RET_NC : ran [0xD0#8]
    { State.reset with regs := { State.reset.regs with sp := 0xC000#16, f := fl 0x00#8 }, mem := [(0xC000, 0x03#8), (0xC001, 0x02#8)] }
    (fun t => decide (t.regs = { State.reset.regs with sp := 0xC002#16, f := fl 0x00#8, pc := 0x0203#16 } ∧
      t.out = some { cycles := 20, frameComplete := false })) = true := by decide

theorem test_R359_RET_NC_2 : ran [0xD0#8]
    { State.reset with regs := { State.reset.regs with sp := 0xC000#16, f := fl 0x10#8 }, mem := [(0xC000, 0x03#8), (0xC001, 0x02#8)] }
    (fun t => decide (t.regs = { State.reset.regs with sp := 0xC000#16, f := fl 0x10#8, pc := 0x0101#16 } ∧
      t.out = some { cycles := 8, frameComplete := false })) = true := by decide

theorem test_R361_RETI : ran [0xD9#8]
    { State.reset with regs := { State.reset.regs with sp := 0xC000#16 }, mem := [(0xC000, 0x03#8), (0xC001, 0x02#8)], ctl := { State.reset.ctl with ime := false } }
    (fun t => decide (t.regs = { State.reset.regs with sp := 0xC002#16, pc := 0x0203#16 } ∧
      t.ctl.ime = true ∧
      t.out = some { cycles := 16, frameComplete := false })) = true := by decide

theorem test_R362_RST_00H : ran [0xC7#8]
    State.reset
    (fun t => decide (t.regs = { State.reset.regs with pc := 0x0000#16, sp := 0xFFFC#16 } ∧
      t.readByte 0xFFFD#16 = 0x01#8 ∧
      t.readByte 0xFFFC#16 = 0x01#8 ∧
      t.out = some { cycles := 16, frameComplete := false })) = true := by decide

theorem test_R370_NOP : ran [0x00#8]
    State.reset
    (fun t => decide (t.regs = { State.reset.regs with pc := 0x0101#16 } ∧
      t.out = some { cycles := 4, frameComplete := false })) = true := by decide

theorem test_R372_HALT : ran [0x76#8]
    { State.reset with irq := { State.reset.irq with ie := 0x01#8, flags := BitVec.ofNat 5 0x00 } }
    (fun t => decide (t.regs = { State.reset.regs with pc := 0x0101#16 } ∧
      t.ctl.halted = true ∧
      t.out = some { cycles := 4, frameComplete := false })) = true := by decide

theorem test_R372_HALT_2 : ran [0x76#8]
    { State.reset with irq := { State.reset.irq with ie := 0x02#8, flags := BitVec.ofNat 5 0x02 } }
    (fun t => decide (t.regs = { State.reset.regs with pc := 0x0101#16 } ∧
      t.ctl.halted = false ∧
      t.out = some { cycles := 4, frameComplete := false })) = true := by decide

theorem test_R374_DI : ran [0xF3#8]
    { State.reset with ctl := { State.reset.ctl with ime := true } }
    (fun t => decide (t.regs = { State.reset.regs with pc := 0x0101#16 } ∧
      t.ctl.ime = false ∧
      t.out = some { cycles := 4, frameComplete := false })) = true := by decide

theorem test_R375_EI : ran [0xFB#8]
    { State.reset with ctl := { State.reset.ctl with ime := false } }
    (fun t => decide (t.regs = { State.reset.regs with pc := 0x0101#16 } ∧
      t.ctl.imeDelay = 1 ∧
      t.ctl.ime = false ∧
      t.out = some { cycles := 4, frameComplete := false })) = true := by decide

theorem test_R375_EI_2 : ran [0xFB#8]
    { State.reset with params := { Params.default with eiDelay := .zero }, ctl := { State.reset.ctl with ime := false } }
    (fun t => decide (t.regs = { State.reset.regs with pc := 0x0101#16 } ∧
      t.ctl.ime = true ∧
      t.out = some { cycles := 4, frameComplete := false })) = true := by decide

theorem test_R375_EI_3 : ran [0xFB#8]
    { State.reset with ctl := { State.reset.ctl with ime := true } }
    (fun t => decide (t.regs = { State.reset.regs with pc := 0x0101#16 } ∧
      t.out = some { cycles := 4, frameComplete := false })) = true := by decide

theorem test_R371_STOP_10 : ran [0x10#8, 0x00#8]
    State.reset
    (fun t => decide (t.regs = { State.reset.regs with pc := 0x0100#16 } ∧
      t.ctl.fatal = some { op := 0x0010#16, pc := 0x0100#16 } ∧
      t.out = none)) = true := by decide

theorem test_R377_illegal_D3 : ran [0xD3#8]
    State.reset
    (fun t => decide (t.regs = { State.reset.regs with pc := 0x0100#16 } ∧
      t.ctl.fatal = some { op := 0x00D3#16, pc := 0x0100#16 } ∧
      t.out = none)) = true := by decide

theorem test_R255_ADC_A_HL : ran [0x8E#8]
    { atC000 0x1E#8 with regs := { (atC000 0x1E#8).regs with a := 0xE1#8, f := fl 0x10#8 } }
    (fun t => decide (t.regs = { (atC000 0#8).regs with a := 0x00#8, f := fl 0xB0#8, pc := 0x0101#16 } ∧
      t.out = some { cycles := 8, frameComplete := false })) = true := by decide

theorem test_R258_SUB_HL : ran [0x96#8]
    { atC000 0x40#8 with regs := { (atC000 0x40#8).regs with a := 0x3E#8, f := fl 0x00#8 } }
    (fun t => decide (t.regs = { (atC000 0#8).regs with a := 0xFE#8, f := fl 0x50#8, pc := 0x0101#16 } ∧
      t.out = some { cycles := 8, frameComplete := false })) = true := by decide

theorem test_R261_SBC_A_HL : ran [0x9E#8]
    { atC000 0x4F#8 with regs := { (atC000 0x4F#8).regs with a := 0x3B#8, f := fl 0x10#8 } }
    (fun t => decide (t.regs = { (atC000 0#8).regs with a := 0xEB#8, f := fl 0x70#8, pc := 0x0101#16 } ∧
      t.out = some { cycles := 8, frameComplete := false })) = true := by decide

theorem test_R264_AND_HL : ran [0xA6#8]
    { atC000 0x00#8 with regs := { (atC000 0x00#8).regs with a := 0x5A#8, f := fl 0x00#8 } }
    (fun t => decide (t.regs = { (atC000 0#8).regs with a := 0x00#8, f := fl 0xA0#8, pc := 0x0101#16 } ∧
      t.out = some { cycles := 8, frameComplete := false })) = true := by decide

theorem test_R267_XOR_HL : ran [0xAE#8]
    { atC000 0x8A#8 with regs := { (atC000 0x8A#8).regs with a := 0xFF#8, f := fl 0x00#8 } }
    (fun t => decide (t.regs = { (atC000 0#8).regs with a := 0x75#8, f := fl 0x00#8, pc := 0x0101#16 } ∧
      t.out = some { cycles := 8, frameComplete := false })) = true := by decide

theorem test_R318_RRC_HL : ran [0xCB#8, 0x0E#8] (atC000 0x8A#8)
    (fun t => decide (t.regs = { (atC000 0#8).regs with f := fl 0x00#8, pc := 0x0102#16 } ∧ t.readByte 0xC000#16 = 0x45#8 ∧
      t.out = some { cycles := 16, frameComplete := false })) = true := by decide

theorem test_R322_RR_HL : ran [0xCB#8, 0x1E#8] (atC000 0x8A#8)
    (fun t => decide (t.regs = { (atC000 0#8).regs with f := fl 0x00#8, pc := 0x0102#16 } ∧ t.readByte 0xC000#16 = 0x45#8 ∧
      t.out = some { cycles := 16, frameComplete := false })) = true := by decide

theorem test_R324_SLA_HL : ran [0xCB#8, 0x26#8] (atC000 0x8A#8)
    (fun t => decide (t.regs = { (atC000 0#8).regs with f := fl 0x10#8, pc := 0x0102#16 } ∧ t.readByte 0xC000#16 = 0x14#8 ∧
      t.out = some { cycles := 16, frameComplete := false })) = true := by decide

/-! ### Interrupts and halted steps (95_test_vectors.md 2.9) -/

theorem test_R411_dispatch : next (step (at0150 true false 0x01#8 0b00001#5))
    (fun t => decide (t.regs = { State.reset.regs with pc := 0x0040#16, sp := 0xFFFC#16 } ∧ t.ctl.ime = false ∧ t.irq.flags = 0#5 ∧
      t.readByte 0xFFFD#16 = 0x01#8 ∧ t.readByte 0xFFFC#16 = 0x50#8 ∧
      t.out = some { cycles := 20, frameComplete := false })) = true := by decide

theorem test_R411_dispatch_writes_IE : next (step { at0150 true false 0x01#8 0b00001#5 with
      regs := { State.reset.regs with pc := 0x0150#16, sp := 0x0001#16 } })
    (fun t => decide (t.regs.pc = 0x0040#16 ∧ t.regs.sp = 0xFFFF#16 ∧ t.irq = { ie := 0x50#8, flags := 0#5 } ∧
      t.readByte 0x0000#16 = 0x00#8)) = true := by decide

theorem test_R410_other_sources_do_not_dispatch : next (step (at0150 true false 0x1E#8 0b11110#5))
    (fun t => decide (t.regs.pc = 0x0151#16 ∧ t.ctl.ime = true)) = true := by decide

theorem test_R401_halted_wait : next (step (at0150 false true 0x01#8 0#5))
    (fun t => decide (t.regs.pc = 0x0150#16 ∧ t.ctl.halted = true ∧ t.out = some { cycles := 4, frameComplete := false })) = true := by
  decide

theorem test_R401_wake_without_dispatch : next (step (at0150 true true 0x04#8 0b00100#5))
    (fun t => decide (t.regs.pc = 0x0151#16 ∧ t.ctl.halted = false)) = true := by decide

theorem test_R402_delay_ends : next (step { at0150 false false 0x01#8 0b00001#5 with
      ctl := { State.reset.ctl with imeDelay := 1 } })
    (fun t => decide (t.regs.pc = 0x0151#16 ∧ t.ctl.ime = true ∧ t.ctl.imeDelay = 0)) = true := by decide

theorem test_R420_left_out : next (step { State.reset with
      regs := { State.reset.regs with pc := 0x0200#16 }, params := { Params.default with leftOut := [0xCB37#16] }
      mem := [(0x0200, 0xCB#8), (0x0201, 0x37#8)] })
    (fun t => decide (t.ctl.fatal = some { op := 0xCB37#16, pc := 0x0200#16 } ∧ t.regs.pc = 0x0200#16 ∧ t.out = none)) = true := by
  decide

/-! ### Memory and I/O (95_test_vectors.md 2.10, 2.13) -/

theorem test_R82_unbacked : [0xA000, 0xBFFF, 0xE000, 0xFDFF, 0xFEA0, 0xFEFF, 0xFF01, 0xFF05, 0xFF07, 0xFF10, 0xFF4C, 0xFF50, 0xFF7F].all
    (fun k => decide (State.reset.readByte (BitVec.ofNat 16 k) = 0xFF#8)) = true := by decide

theorem test_R84_stat : (State.reset.writeByte 0xFF41#16 0xFF#8).readByte 0xFF41#16 = 0xFE#8 ∧
    (atPlace 144 0 .vblank).readByte 0xFF41#16 = 0x81#8 ∧ (atPlace 144 0 .vblank).readByte 0xFF44#16 = 0x90#8 := by decide

theorem test_R84_if_ie : (State.reset.writeByte 0xFF0F#16 0xFF#8).readByte 0xFF0F#16 = 0xFF#8 ∧
    (State.reset.writeByte 0xFFFF#16 0xE5#8).readByte 0xFFFF#16 = 0xE5#8 ∧
    (State.reset.writeByte 0xFF44#16 0x50#8).readByte 0xFF44#16 = 0x00#8 := by decide

theorem test_R90_oam_copy_byte : (State.reset.copyToOam 0xA0#8 0).readByte 0xFE00#16 = 0xFF#8 ∧
    ((State.reset.writeByte 0xC09F#16 0x9F#8).copyToOam 0xC0#8 159).readByte 0xFE9F#16 = 0x9F#8 := by decide

theorem test_R470_two_draws : ran [0xF0#8, 0x04#8]
    { State.reset with ext := { External.initial with divInject := [0x12#8, 0x34#8] } }
    (fun t => decide (t.regs.a = 0x12#8 ∧ t.readByte divAddr = 0x34#8)) = true := by decide

theorem test_R466_joypad : p1Value 0b01#2 { Buttons.released with start := true } = 0xD7#8 ∧
    p1Value 0b10#2 { Buttons.released with right := true } = 0xEE#8 ∧
    p1Value 0b00#2 { Buttons.released with right := true, start := true } = 0xC6#8 ∧
    p1Value 0b11#2 Buttons.released = 0xFF#8 ∧ p1Value 0b10#2 { Buttons.released with start := true } = 0xEF#8 := by decide

/-! ### The PPU (95_test_vectors.md 2.11, 2.12) -/

theorem test_R443_mode3_begins : (atPlace 0 79 .oamScan).ppuTick.1.ppu.mode = .transfer := by decide

theorem test_R444_vblank : let r := (atPlace 143 455 .hblank).ppuTick
    r.1.ppu.ly = 144 ∧ r.1.ppu.dot = 0 ∧ r.1.ppu.mode = .vblank ∧ r.1.irq.flags = 0b00001#5 ∧ r.2 = true := by decide

theorem test_R445_frame_wraps : let r := (atPlace 153 455 .vblank).ppuTick
    r.1.ppu.ly = 0 ∧ r.1.ppu.dot = 0 ∧ r.1.ppu.mode = .oamScan ∧ r.1.irq.flags = 0#5 ∧ r.2 = false := by decide

theorem test_R450_background : (scenario4 0x91#8 []).bgShade 0 0 = 3#2 ∧ (scenario4 0x91#8 []).bgShade 0 1 = 0#2 := by decide

theorem test_R451_signed_tiles :
    (scenario4 0x81#8 [(0x9800, 0x80#8), (0x8800, 0x00#8), (0x8801, 0x80#8)]).bgShade 0 0 = 2#2 := by decide

theorem test_R455_index_0_is_transparent :
    (scenario4 0x93#8 [(0xFE00, 16#8), (0xFE01, 8#8), (0xFE02, 1#8)]).spriteShadeAt 0 0 0 = none := by decide

theorem test_R455_index_1_replaces :
    (scenario4 0x93#8 [(0xFE00, 16#8), (0xFE01, 8#8), (0xFE02, 1#8), (0x8010, 0x80#8)]).spriteShadeAt 0 0 0 = some 1#2 := by decide

theorem test_R454_flips :
    (scenario4 0x82#8 [(0xFE00, 16#8), (0xFE01, 8#8), (0xFE02, 1#8), (0xFE03, 0x60#8), (0x801E, 0x01#8), (0x801F, 0x01#8)]).spriteShadeAt
      0 0 0 = some 3#2 := by decide

theorem test_R457_tall_sprite :
    (scenario4 0x86#8 [(0xFE00, 16#8), (0xFE01, 8#8), (0xFE02, 3#8), (0x8020, 0xFF#8)]).spriteShadeAt 0 0 7 = some 1#2 := by decide

/-! ### Witnesses: for every statement with hypotheses, values that meet them all -/

/-- Memory in canonical form: StoreToHl, StoreAccumulator, AccumulatorSteppingHl, StoreStackPointer, PushPair, IncrementDecrement,
ShiftAtHl, BitResetAndSet, Calls, InterruptDispatch. -/
theorem witness_memory_wf : State.reset.mem.wf = true ∧ (scenario4 0x91#8 []).mem.wf = true := by decide

theorem witness_EncodeDecode : decode [0xFF#8, 0x00#8] = .ok (.rst38, [0x00#8]) ∧ Instr.rst38 ≠ .stop ∧
    decode [0x3E#8, 0x42#8] = .ok (.ldAD8 0x42#8, []) ∧ Instr.ldAD8 0x42#8 ≠ .stop := ⟨rfl, by decide, rfl, by decide⟩

theorem witness_LengthFromFirstByte : decode (0xCD#8 :: [0x34#8, 0x12#8, 0x00#8]) = .ok (.callA16 0x1234#16, [0x00#8]) ∧
    lengthOf 0xCD#8 ≤ (0xCD#8 :: [0x34#8, 0x12#8]).length ∧ lengthOf 0xCB#8 ≤ (0xCB#8 :: [0x37#8]).length ∧
    lengthOf 0x00#8 ≤ (0x00#8 :: ([] : List Byte)).length := ⟨rfl, by decide, by decide, by decide⟩

theorem witness_IllegalOpcodes : decode (0xED#8 :: []) = .ok (.illegalED, []) ∧ decode (0x76#8 :: []) = .ok (.halt, []) :=
  ⟨rfl, rfl⟩

theorem witness_PairsAreViews : Pair.bc ≠ .sp ∧ Reg8.d ∉ Pair.halves .bc ∧ StackPair.bc ≠ .af ∧ Reg8.b ∉ StackPair.halves .af ∧
    Reg8.a ∉ Pair.halves .sp := by decide

theorem witness_DroppedWrites : (0x0000#16).toNat < 0x8000 ∧ (0x7FFF#16).toNat < 0x8000 ∧
    [0xA000#16, 0xBFFF#16].all (fun a => decide (0xA000 ≤ a.toNat ∧ a.toNat < 0xC000)) = true ∧
    [0xE000#16, 0xFDFF#16].all (fun a => decide (0xE000 ≤ a.toNat ∧ a.toNat < 0xFE00)) = true ∧
    [0xFEA0#16, 0xFEFF#16].all (fun a => decide (0xFEA0 ≤ a.toNat ∧ a.toNat < 0xFF00)) = true ∧
    [0xFF01#16, 0xFF3F#16, 0xFF4C#16, 0xFF7F#16].all
      (fun a => decide (0xFF00 ≤ a.toNat ∧ a.toNat < 0xFF80 ∧ a.toNat - 0xFF00 ∉ ioOffsets)) = true := by decide

theorem witness_RamReadAfterWrite : State.reset.mem.wf = true ∧
    [0x8000#16, 0x9FFF#16, 0xC000#16, 0xDFFF#16, 0xFE00#16, 0xFE9F#16, 0xFF80#16, 0xFFFE#16].all
      (fun a => decide ((0x8000 ≤ a.toNat ∧ a.toNat < 0xA000) ∨ (0xC000 ≤ a.toNat ∧ a.toNat < 0xE000) ∨
        (0xFE00 ≤ a.toNat ∧ a.toNat < 0xFEA0) ∨ (0xFF80 ≤ a.toNat ∧ a.toNat < 0xFFFF))) = true := by decide

theorem witness_IoRegisters : [0xFF01#16, 0xFF3F#16, 0xFF4C#16, 0xFF7F#16].all
    (fun a => decide (0xFF00 ≤ a.toNat ∧ a.toNat < 0xFF80 ∧ a.toNat - 0xFF00 ∉ ioOffsets)) = true := by decide

theorem witness_OamCopy : State.reset.mem.wf = true ∧ (159 : Nat) < 160 ∧
    [(0xFDFF#16, 0xC0#8), (0xFEA0#16, 0xFF#8), (0xFF04#16, 0xFE#8), (0xFF47#16, 0xFF#8)].all
      (fun x => decide (¬(0xFE00 ≤ x.1.toNat ∧ x.1.toNat < 0xFEA0) ∧ x.1 ≠ 0xFF46#16 ∧ (x.2 = 0xFF#8 → x.1 ≠ divAddr))) = true := by
  decide

theorem witness_DivDraws : ({ State.reset with ext := { External.initial with divInject := [0x12#8, 0x34#8] } } : State).ext.divInject =
    0x12#8 :: [0x34#8] ∧ State.reset.ext.divInject = [] ∧ 0xFF03#16 ≠ 0xFF04#16 := by decide

/-- A step with a next state: RomIsImmutable, ButtonsAtFrameYield. -/
theorem witness_step : (∃ t, step State.reset = .next t) ∧ (0x7FFF#16).toNat < 0x8000 ∧ State.reset.live = true :=
  ⟨⟨_, rfl⟩, by decide, by decide⟩

theorem witness_LoadPair : Pair.hl ≠ .sp ∧ Reg8.b ∉ Pair.halves .hl := by decide

theorem witness_PopPair : StackPair.hl ≠ .af ∧ Reg8.b ∉ StackPair.halves .hl ∧ Reg8.b ∉ StackPair.halves .af := by decide

theorem witness_DecimalArithmetic : let s := State.reset.mapRegs fun g => { g with a := 0x99#8, b := 0x99#8, c := 0x00#8 }
    Packed s.regs.a ∧ Packed (s.regs.get8 .a) ∧ Packed (s.regs.get8 .b) ∧ Packed (s.regs.get8 .c) := by
  unfold Packed
  decide

theorem witness_PairArithmetic : Pair.bc ≠ .sp := by decide

/-- Both branches of a condition: Jumps, Calls, Returns. -/
theorem witness_conditions : Cond.test .z true false = true ∧ Cond.test .nz true false = false ∧ Cond.test .c false true = true ∧
    Cond.test .nc false true = false := by decide

/-- 20_memory.md R84: a write to LYC recomputes STAT's coincidence bit and keeps its other bits (LY 0, mode 2, select bits 1010). -/
theorem test_R84_lyc_write_keeps_stat :
    ran [0xE0#8, 0x45#8] { State.reset with io := { State.reset.io with statSel := 0b1010#4 }, regs := { State.reset.regs with a := 0x05#8 } }
      (fun t => decide (t.readByte 0xFF41#16 = 0xD2#8 ∧ t.readByte 0xFF45#16 = 0x05#8)) = true := by decide

theorem witness_ProcessorControl : ({ State.reset with params := { Params.default with eiDelay := .zero } } : State).params.eiDelay = .zero ∧
    State.reset.params.eiDelay = .one ∧
    (at0150 false false 0x01#8 0#5).irq.ie &&& BitVec.setWidth 8 (at0150 false false 0x01#8 0#5).irq.flags &&& 0x1F#8 = 0#8 ∧
    (at0150 false false 0x10#8 0b10000#5).irq.ie &&& BitVec.setWidth 8 (at0150 false false 0x10#8 0b10000#5).irq.flags &&& 0x1F#8 ≠
      0#8 := by decide

/-- The reset machine fetches the NOP that a blank cartridge holds at 0x0100. -/
theorem witness_StepRunsDecoded : State.reset.fetches = true ∧
    decode (fetchBytes State.reset.regs.pc (lengthOf (State.reset.readByte State.reset.regs.pc)) State.reset.wake).1 =
      .ok (.nop, []) ∧ Instr.nop ≠ .stop ∧
    State.reset.params.leftOut.contains
      (opcodeOf (fetchBytes State.reset.regs.pc (lengthOf (State.reset.readByte State.reset.regs.pc)) State.reset.wake).1) = false ∧
    (∀ k, k < lengthOf (State.reset.readByte State.reset.regs.pc) → State.reset.regs.pc + BitVec.ofNat 16 k ≠ divAddr) :=
  ⟨by decide, rfl, by decide, by decide, by decide⟩

theorem witness_StepRunsDecoded_stop : (State.reset.placeInstruction [0x10#8]).fetches = true ∧
    (State.reset.placeInstruction [0x10#8]).readByte (State.reset.placeInstruction [0x10#8]).regs.pc = 0x10#8 ∧
    (State.reset.placeInstruction [0x10#8]).params.leftOut.contains 0x0010#16 = false := by decide

theorem witness_InterruptDispatch : let s := at0150 true false 0x01#8 0b00001#5
    s.mem.wf = true ∧ s.live = true ∧ s.waits = false ∧ s.dispatchPending = true ∧ s.ctl.ime = true ∧ s.irq.ie.getLsbD 0 = true ∧
      s.irq.flags.getLsbD 0 = true := by decide

theorem witness_HaltedWait : let s := at0150 false true 0x01#8 0#5
    let t := at0150 false true 0x10#8 0b10000#5
    s.live = true ∧ s.ctl.halted = true ∧ s.irq.ie &&& BitVec.setWidth 8 s.irq.flags &&& 0x1F#8 = 0#8 ∧
      t.live = true ∧ t.ctl.halted = true ∧ t.irq.ie &&& BitVec.setWidth 8 t.irq.flags &&& 0x1F#8 ≠ 0#8 ∧
      State.reset.ctl.halted = false := by decide

/-- An illegal opcode, STOP, and a prefixed opcode that is left out. -/
theorem witness_UnimplementedOpcode : (State.reset.placeInstruction [0xED#8]).fetches = true ∧
    (State.reset.placeInstruction [0xED#8]).readByte 0x0100#16 = 0xED#8 ∧ implemented Params.default 0x00ED#16 = false ∧
    (State.reset.placeInstruction [0x10#8]).fetches = true ∧ implemented Params.default 0x0010#16 = false ∧
    implemented { Params.default with leftOut := [0xCB37#16] } 0xCB37#16 = false ∧
    ({ State.reset with params := { Params.default with leftOut := [0xCB37#16] }, mem := [(0x0100, 0xCB#8), (0x0101, 0x37#8)] } :
      State).fetches = true := by decide

/-- The reset machine after a fatal stop, with the host's next action given. -/
def stoppedMachine (q : List HostAction) : State :=
  { State.reset with
    ctl := { State.reset.ctl with fatal := some { op := 0x00ED#16, pc := 0x0100#16 } }
    ext := { External.initial with yields := q } }

theorem witness_FatalIsPermanent : (stoppedMachine []).ctl.fatal = some { op := 0x00ED#16, pc := 0x0100#16 } ∧
    (stoppedMachine []).ext.stopped = false ∧ (∀ q, (stoppedMachine []).ext.yields ≠ .reset :: q) ∧
    (stoppedMachine [.reset, .resume]).ext.yields = .reset :: [.resume] :=
  ⟨rfl, rfl, fun _ h => (nomatch h), rfl⟩

/-- No record, and the step that makes one. -/
theorem witness_FatalRecordIsTrue : State.fatalOk (State.reset.placeInstruction [0xED#8]) ∧
    next (step (State.reset.placeInstruction [0xED#8])) (fun t => decide (t.ctl.fatal ≠ none)) = true :=
  ⟨fun _ h => (nomatch h), by decide⟩

theorem witness_EndOfInstruction : State.reset.out = none ∧
    (State.reset.finish 1 4).out = some { cycles := 4, frameComplete := false } ∧
    ({ State.reset.finish 1 4 with ctl := { State.reset.ctl with imeDelay := 1 } } : State).ctl.imeDelay = 1 := ⟨rfl, rfl, rfl⟩

/-- A tick that enters vertical blank, and one that does not: both answers that an advance joins. -/
theorem witness_ticks : (0 : Nat) < 4 ∧ ((atPlace 143 455 .hblank).ticks 0).ppuTick.2 = true ∧
    ((atPlace 143 455 .hblank).ticks 1).ppuTick.2 = false := by decide

theorem blank_wf : FrameBuffer.blank.wf = true := by simp [FrameBuffer.wf, FrameBuffer.blank]

theorem atPlace_wf {ly dot : Nat} {mode : PpuMode} (h1 : ly < 154) (h2 : dot < 456) (h : mode = modeAt ly dot 172) :
    (atPlace ly dot mode).ppu.wf = true :=
  (ppu_wf_iff _).mpr ⟨h1, h2, ⟨show 1 ≤ 172 by decide, show 172 ≤ 375 by decide⟩, h, blank_wf⟩

theorem witness_StepKeepsInvariant : (atPlace 153 455 .vblank).inv = true ∧ ∃ t, step (atPlace 153 455 .vblank) = .next t := by
  have h : (atPlace 153 455 .vblank).ppu.wf = true := atPlace_wf (by decide) (by decide) (by decide)
  refine ⟨?_, (step_live (by decide)).elim fun _ h => ⟨_, h.2⟩⟩
  unfold State.inv
  rw [h]
  rfl

/-- The ticks at the edges of a line and of the frame. -/
theorem witness_PpuTick : State.reset.params.wf = true ∧ (atPlace 0 0 .oamScan).ppu.wf = true ∧
    (atPlace 0 79 .oamScan).ppu.wf = true ∧ (atPlace 143 251 .transfer).ppu.wf = true ∧ (atPlace 143 455 .hblank).ppu.wf = true ∧
    (atPlace 144 0 .vblank).ppu.wf = true ∧ (atPlace 153 455 .vblank).ppu.wf = true := by
  refine ⟨by decide, ?_, ?_, ?_, ?_, ?_, ?_⟩ <;> exact atPlace_wf (by decide) (by decide) (by decide)

/-- The tick that fixes a length of mode 3 that depends on the state, and one that fixes a constant. -/
theorem witness_PpuTick_mode3 : let s : State := { atPlace 0 79 .oamScan with params := { Params.default with mode3 := .dependent } }
    s.params.wf = true ∧ s.ppu.wf = true ∧ s.params.mode3 = .dependent ∧ s.ppu.ly < 144 ∧ s.ppu.dot + 1 = 80 ∧
      (atPlace 0 79 .oamScan).params.mode3 = .constant 172 :=
  ⟨by decide, (atPlace_wf (by decide) (by decide) (by decide) : (atPlace 0 79 .oamScan).ppu.wf = true), rfl, by decide, rfl, rfl⟩

/-- A step that returns cycles, at the start of the frame and just before vertical blank. -/
theorem witness_FrameClock : State.reset.ppu.ly < 154 ∧ State.reset.ppu.dot < 456 ∧ State.reset.live = true ∧
    next (step State.reset) (fun t => decide (t.out = some { cycles := 4, frameComplete := false })) = true ∧
    (atPlace 143 455 .hblank).live = true ∧
    next (step { atPlace 143 455 .hblank with ext := { External.initial with yields := [.resume] } })
      (fun t => decide (t.out = some { cycles := 4, frameComplete := true })) = true := by decide

theorem witness_BackgroundPixel : (0 : Nat) < 160 ∧ (159 : Nat) < 160 ∧ (scenario4 0x11#8 []).io.lcdc.getLsbD 7 = false ∧
    (scenario4 0x90#8 []).io.lcdc.getLsbD 7 = true ∧ (scenario4 0x90#8 []).io.lcdc.getLsbD 1 = false ∧
    (scenario4 0x90#8 []).io.lcdc.getLsbD 0 = false ∧ (scenario4 0x91#8 []).io.lcdc.getLsbD 0 = true ∧
    (scenario4 0x91#8 []).io.lcdc.getLsbD 1 = false ∧ (scenario4 0x92#8 []).io.lcdc.getLsbD 0 = false ∧
    (scenario4 0x93#8 []).io.lcdc.getLsbD 0 = true ∧ (scenario4 0x93#8 []).io.lcdc.getLsbD 1 = true := by decide

theorem witness_SpriteCompositing : (159 : Nat) < 160 ∧ (scenario4 0x93#8 []).io.lcdc.getLsbD 7 = true ∧
    (scenario4 0x93#8 []).io.lcdc.getLsbD 1 = true ∧ (scenario4 0x93#8 []).params.spriteOrder = .laterWins ∧
    ({ scenario4 0x93#8 [] with params := { Params.default with spriteOrder := .earlierWins } } : State).params.spriteOrder =
      .earlierWins := by decide

theorem witness_SpriteRow : (39 : Nat) < 40 ∧ (7 : Nat) < 8 ∧
    (scenario4 0x93#8 [(0xFE00, 16#8), (0xFE01, 8#8)]).spriteCovers 0 0 = true ∧
    (scenario4 0x97#8 [(0xFE9C, 16#8)]).spriteCovers 15 39 = true ∧
    (scenario4 0x93#8 [(0xFE9C, 16#8)]).spriteCovers 8 39 = false := by decide

theorem witness_ConstructAndReset : (List.replicate 32768 0x00#8).length = 32768 ∧ (List.replicate 32767 0x00#8).length ≠ 32768 ∧
    (0x7FFF#16).toNat < 0x8000 ∧ 0x8000 ≤ 0x8000 := by
  simp only [List.length_replicate]
  decide

/-- The reset machine with the host's actions given. -/
def queued (q : List HostAction) : State := { State.reset with ext := { External.initial with yields := q } }

/-- A step without a frame yield, each action of the host, and the outputs of a step. -/
theorem witness_ButtonsAtFrameYield : next (step State.reset) (fun t => decide (t.out = some { cycles := 4, frameComplete := false })) = true ∧
    (queued [.resume]).ext.yields = .resume :: [] ∧ (queued [.report Buttons.released, .stop]).ext.yields = .report Buttons.released :: [.stop] ∧
    (queued [.reset]).ext.yields = .reset :: [] ∧ (queued [.stop]).ext.yields = .stop :: [] ∧ (queued []).ext.yields = [] ∧
    ({ State.reset with ext := { External.initial with stopped := true } } : State).ext.stopped = true ∧ State.reset.out = none ∧
    (State.reset.finish 1 4).out = some { cycles := 4, frameComplete := false } :=
  ⟨by decide, rfl, rfl, rfl, rfl, rfl, rfl, rfl, rfl⟩

end Sys2Proof.Tests
end

section
/-! The invariant of a run: it holds at reset, and each way a step can end keeps it. -/
namespace Sys2Proof.Machine

/-! ### The invariant and its parts -/

theorem inv_iff (s : State) :
    s.inv = true ↔ s.mem.wf = true ∧ s.ppu.wf = true ∧ s.ctl.wf = true ∧ s.params.wf = true := by
  simp only [State.inv, Bool.and_eq_true, and_assoc]

theorem control_wf_iff (c : Control) : c.wf = true ↔ c.imeDelay ≤ 1 ∧ (c.imeDelay = 0 ∨ c.ime = false) := by
  simp only [Control.wf, Bool.and_eq_true, Bool.or_eq_true, decide_eq_true_eq, Bool.not_eq_true']

/-! ### Reset -/

theorem frameBuffer_blank_wf : FrameBuffer.blank.wf = true := by
  simp [FrameBuffer.wf, FrameBuffer.blank]

theorem resetWith_ppu_wf (p : Params) (rom : Memory) (x : External) : (State.resetWith p rom x).ppu.wf = true :=
  (ppu_wf_iff _).mpr
    ⟨Nat.zero_lt_succ _, Nat.zero_lt_succ _, show 1 ≤ 172 ∧ 172 ≤ 375 by decide, rfl, frameBuffer_blank_wf⟩

/-- A reset establishes the invariant from a canonical ROM and legal parameters. -/
theorem resetWith_inv {p : Params} {rom : Memory} (x : External) (hrom : rom.wf = true) (hp : p.wf = true) :
    (State.resetWith p rom x).inv = true :=
  (inv_iff _).mpr ⟨hrom, resetWith_ppu_wf p rom x, rfl, hp⟩

/-- Settles O7: `State.reset` is a reset with the decided parameters, and it holds no fatal record. -/
theorem resetInvariant : Obligations.ResetInvariant :=
  ⟨resetWith_inv External.initial reset_mem_wf (by decide), fun _ h => nomatch h⟩

/-! ### The EI delay -/

/-- The end of an instruction counts the EI delay down (60_exceptions.md R402): a delay of 1 ends, and the delay of 2 that EI
starts while IME is 0 has one instruction to go. -/
theorem endOfInstruction_ctl_wf {s : State} (h : s.ctl.imeDelay ≤ 1 ∨ (s.ctl.imeDelay = 2 ∧ s.ctl.ime = false)) :
    s.endOfInstruction.ctl.wf = true := by
  rw [control_wf_iff]
  unfold State.endOfInstruction
  split
  · rcases h with h1 | ⟨h2, hi⟩
    · exact ⟨show s.ctl.imeDelay - 1 ≤ 1 by omega, .inl (show s.ctl.imeDelay - 1 = 0 by omega)⟩
    · simp [h2, hi]
  · exact ⟨by omega, .inl (by omega)⟩

theorem retire_ctl_of_out {s : State} (h : s.out ≠ none) : s.retire.ctl = s.endOfInstruction.ctl := by
  obtain ⟨o, ho⟩ := Option.ne_none_iff_exists'.mp h
  simp only [State.retire, ho, completeStep_ctl]

/-- Whatever an instruction does to the control state, its end leaves the EI delay in range. -/
theorem retire_ctl_wf {s t : State} (h : CtlChange s t) (hs : s.ctl.wf = true) : t.retire.ctl.wf = true := by
  obtain ⟨hle, -⟩ := (control_wf_iff _).mp hs
  cases h with
  | same h o | halt h o | enable h o =>
    rw [retire_ctl_of_out o]
    exact endOfInstruction_ctl_wf (.inl (by rw [h]; exact hle))
  | mask h o | unmask h o =>
    rw [retire_ctl_of_out o]
    exact endOfInstruction_ctl_wf (.inl (by rw [h]; exact Nat.zero_le 1))
  | delay h hi o =>
    rw [retire_ctl_of_out o]
    exact endOfInstruction_ctl_wf (.inr (by rw [h]; exact ⟨rfl, hi⟩))
  | fatal op => exact hs

theorem stepped_ctl_wf {s u : State} (h : Stepped s u) (hs : s.ctl.wf = true) : u.ctl.wf = true := by
  cases h with
  | wait => rw [completeStep_ctl]; exact hs
  | dispatch => rw [completeStep_ctl]; rfl
  | leftOut v _ _ hv => rw [raiseFatal_ctl, hv.ctl]; exact hs
  | run v w _ _ hv hr => exact retire_ctl_wf (runs_ctl hr) (by rw [hv.ctl]; exact hs)

/-! ### The PPU -/

theorem retire_ppu_wf {s : State} (hq : s.params.wf = true) (h : s.ppu.wf = true) : s.retire.ppu.wf = true := by
  unfold State.retire
  split
  · have hk := endOfInstruction_keeps s
    exact completeStep_wf _ (by rw [hk.params]; exact hq) (by rw [hk.ppu]; exact h)
  · exact h

theorem stepped_ppu_wf {s u : State} (h : Stepped s u) (hq : s.params.wf = true) (hp : s.ppu.wf = true) :
    u.ppu.wf = true := by
  cases h with
  | wait => exact completeStep_wf 4 hq hp
  | dispatch =>
    have hk := Keeps.dispatch s.wake
    exact completeStep_wf 20 (by rw [hk.params]; exact hq) (by rw [hk.ppu]; exact hp)
  | leftOut v _ _ hv => rw [raiseFatal_ppu, hv.ppu]; exact hp
  | run v w _ _ hv hr =>
    have hk := hv.keeps.trans (runs_keeps hr)
    exact retire_ppu_wf (by rw [hk.params]; exact hq) (by rw [hk.ppu]; exact hp)

/-! ### The step -/

theorem stepped_inv {s u : State} (h : Stepped s u) (hs : s.inv = true) : u.inv = true := by
  obtain ⟨hm, hp, hc, hq⟩ := (inv_iff s).mp hs
  obtain ⟨-, hparams, -, hmem⟩ := stepped_keeps h
  exact (inv_iff u).mpr ⟨hmem hm, stepped_ppu_wf h hq hp, stepped_ctl_wf h hc, by rw [hparams]; exact hq⟩

/-- The host's reset keeps the ROM and the parameters, so it establishes the invariant again (70_reset_and_hazards.md R502). -/
theorem hostReset_inv {s : State} (hs : s.inv = true) : s.hostReset.inv = true := by
  obtain ⟨hm, -, -, hq⟩ := (inv_iff s).mp hs
  exact resetWith_inv s.ext (Memory.romPart_wf hm) hq

theorem frameYield_inv {s : State} (hs : s.inv = true) : s.frameYield.inv = true := by
  rcases frameYield_cases s with ⟨b, x, h⟩ | ⟨q, -, h⟩ <;> rw [h]
  · exact hs
  · exact hostReset_inv (s := s.withYields q) hs

/-- Settles O53: a step is a reset after a fatal stop, or one of the four kinds of step and the host's turn. -/
theorem stepKeepsInvariant : Obligations.StepKeepsInvariant := by
  intro s t hs hstep
  rcases step_cases hstep with ⟨-, r, q, -, -, rfl⟩ | ⟨-, u, hu, rfl⟩
  · exact hostReset_inv (s := s.withYields q) hs
  · exact frameYield_inv (stepped_inv hu hs)

end Sys2Proof.Machine
end

section
/-! The registers: the pairs as views of the 8-bit registers and of F, and every register after reset. -/
namespace Sys2Proof.Machine

/-! ### F as a byte -/

/-- The unused bits 3 to 0 of F are lost on the way through the flags (10_state.md R34). -/
@[simp] theorem toByte_ofByte (v : Byte) : (Flags.ofByte v).toByte = v &&& 0xF0#8 := by
  apply BitVec.eq_of_getLsbD_eq
  intro i hi
  simp only [Flags.toByte, Flags.ofByte, BitVec.getLsbD_and, BitVec.getLsbD_append, BitVec.getLsbD_ofBool]
  interval_cases i <;> simp

theorem toByte_and_low (f : Flags) : f.toByte &&& 0x0F#8 = 0#8 := by
  obtain ⟨z, n, h, c⟩ := f
  revert z n h c
  decide

theorem toByte_toNat (f : Flags) :
    f.toByte.toNat = 128 * f.z.toNat + 64 * f.n.toNat + 32 * f.h.toNat + 16 * f.c.toNat := by
  obtain ⟨z, n, h, c⟩ := f
  revert z n h c
  decide

/-! ### Pairs -/

theorem setPair_sp {p : Pair} (g : Regs) (v : Word) (h : p ≠ .sp) : (g.setPair p v).sp = g.sp := by
  cases p with
  | sp => exact absurd rfl h
  | bc | de | hl => rfl

theorem get8_set8_set8 {q r r' : Reg8} (g : Regs) (x y : Byte) (h : q ∉ [r, r']) :
    ((g.set8 r x).set8 r' y).get8 q = g.get8 q := by
  obtain ⟨hr, hr'⟩ : q ≠ r ∧ q ≠ r' := by simpa using h
  rw [get8_set8_ne _ _ hr', get8_set8_ne _ _ hr]

/-- Writing a pair writes its two registers, and no other (10_state.md R31). -/
theorem get8_setPair {p : Pair} {r : Reg8} (g : Regs) (v : Word) (h : r ∉ p.halves) :
    (g.setPair p v).get8 r = g.get8 r := by
  cases p with
  | sp => cases r <;> rfl
  | bc | de | hl => exact get8_set8_set8 g (hi v) (lo v) h

theorem getStackPair_setStackPair (g : Regs) (p : StackPair) (v : Word) :
    (g.setStackPair p v).getStackPair p = if p = .af then v &&& 0xFFF0#16 else v := by
  cases p with
  | af =>
    calc cat (hi v) (Flags.ofByte (lo v)).toByte
      _ = cat (hi v &&& BitVec.allOnes 8) (lo v &&& 0xF0#8) := by rw [toByte_ofByte, BitVec.and_allOnes]
      _ = cat (hi v) (lo v) &&& cat (BitVec.allOnes 8) 0xF0#8 := BitVec.and_append.symm
      _ = v &&& 0xFFF0#16 := by rw [cat_hi_lo, show cat (BitVec.allOnes 8) 0xF0#8 = 0xFFF0#16 by decide]
  | bc | de | hl => exact cat_hi_lo v

theorem setStackPair_f {p : StackPair} (g : Regs) (v : Word) (h : p ≠ .af) : (g.setStackPair p v).f = g.f := by
  cases p with
  | af => exact absurd rfl h
  | bc | de | hl => rfl

theorem get8_setStackPair {p : StackPair} {r : Reg8} (g : Regs) (v : Word) (h : r ∉ p.halves) :
    (g.setStackPair p v).get8 r = g.get8 r := by
  cases p with
  | af =>
    cases r with
    | a => exact absurd (List.mem_singleton_self _) h
    | b | c | d | e | h | l => rfl
  | bc | de | hl => exact get8_set8_set8 g (hi v) (lo v) h

/-- Settles O8: a pair read after a write, what the write leaves, and the names of pairs, registers and bytes. -/
theorem pairsAreViews : Obligations.PairsAreViews := by
  intro g v
  refine ⟨fun p => ?_, fun p => ?_, ⟨rfl, rfl, rfl, rfl⟩, ⟨rfl, rfl, rfl, rfl⟩, toByte_and_low g.f, toByte_toNat g.f,
    fun h l => ⟨cat_toNat h l, hi_cat h l, lo_cat h l⟩, ⟨rfl, rfl, rfl, rfl, rfl, rfl, rfl⟩, fun _ => rfl⟩
  · exact ⟨getPair_setPair_self g p v, setPair_f g p v, setPair_pc g p v, setPair_sp g v, fun _ => get8_setPair g v⟩
  · exact ⟨getStackPair_setStackPair g p v, setStackPair_f g v, setStackPair_sp g p v, setStackPair_pc g p v,
      fun _ => get8_setStackPair g v⟩

/-! ### Registers after reset -/

/-- A read at the address of an implemented I/O register is the read column of 20_memory.md R84. -/
theorem readByte_addr (s : State) (r : IoReg) : s.readByte r.addr = s.readIo (some r) := readByte_io r.region r.at_addr

theorem resetWith_pairs (p : Params) (rom : Memory) (x : External) : let g := (State.resetWith p rom x).regs
    g.getStackPair .af = 0x01B0#16 ∧ g.getPair .bc = 0x0013#16 ∧ g.getPair .de = 0x00D8#16 ∧ g.hl = 0x014D#16 :=
  ⟨show cat 0x01#8 (Flags.toByte ⟨true, false, true, true⟩) = 0x01B0#16 by decide, show cat 0x00#8 0x13#8 = 0x0013#16 by decide,
    show cat 0x00#8 0xD8#8 = 0x00D8#16 by decide, show cat 0x01#8 0x4D#8 = 0x014D#16 by decide⟩

theorem resetWith_p1 (p : Params) (rom : Memory) (x : External) : (State.resetWith p rom x).readIo (some .p1) = 0xCF#8 :=
  show p1Value 0b00#2 Buttons.released = 0xCF#8 by decide

theorem resetWith_iflag (p : Params) (rom : Memory) (x : External) : (State.resetWith p rom x).readIo (some .iflag) = 0xE1#8 :=
  show 0b111#3 ++ 0b00001#5 = 0xE1#8 by decide

/-- LY and LYC are both 0, so the coincidence bit is set, and the mode is 2 (R84). -/
theorem resetWith_stat (p : Params) (rom : Memory) (x : External) : (State.resetWith p rom x).readIo (some .stat) = 0x86#8 :=
  show 1#1 ++ 0b0000#4 ++ BitVec.ofBool (decide (0 = (0x00#8).toNat)) ++ PpuMode.oamScan.bits = 0x86#8 by decide

/-- Settles O6: the CPU registers and control state, a read of each register of the map, then the PPU and the buttons. -/
theorem resetRegisters : Obligations.ResetRegisters := by
  intro p rom x s
  obtain ⟨haf, hbc, hde, hhl⟩ := resetWith_pairs p rom x
  have io := readByte_addr s
  exact ⟨haf, hbc, hde, hhl, rfl, rfl, rfl, (io .p1).trans (resetWith_p1 p rom x), (io .iflag).trans (resetWith_iflag p rom x),
    readByte_ie s, io .lcdc, (io .stat).trans (resetWith_stat p rom x), io .scy, io .scx, io .lyc, io .dma, io .bgp, io .obp0,
    io .obp1, io .wy, io .wx, rfl, rfl, rfl, rfl, rfl, rfl, rfl⟩

end Sys2Proof.Machine
end

section
/-! The memory map: what the dispatcher does at each row, the I/O window, the OAM copy, and that ROM never changes. -/
namespace Sys2Proof.Machine

/-! ### ROM is immutable -/

theorem backed_rom {k : Nat} (h : k < 0x8000) : backed k = true := by
  simp [backed, show k < 0xA000 by omega]

/-- A reset keeps every byte of ROM (70_reset_and_hazards.md R502). -/
theorem hostReset_rom (s : State) {k : Nat} (hk : k < 0x8000) : s.hostReset.mem.get k = s.mem.get k :=
  Memory.get_romPart s.mem hk

/-- The host's turn leaves memory alone or resets the machine (60_exceptions.md R481). -/
theorem frameYield_rom (s : State) {k : Nat} (hk : k < 0x8000) : s.frameYield.mem.get k = s.mem.get k := by
  rcases frameYield_cases s with ⟨b, x, h⟩ | ⟨q, -, h⟩ <;> rw [h]
  exact hostReset_rom (s.withYields q) hk

theorem step_rom {s t : State} (h : step s = .next t) {k : Nat} (hk : k < 0x8000) : t.mem.get k = s.mem.get k := by
  rcases step_cases h with ⟨-, r, q, -, -, rfl⟩ | ⟨-, u, hu, rfl⟩
  · exact hostReset_rom (s.withYields q) hk
  · obtain ⟨hrom, -, -, -⟩ := stepped_keeps hu
    exact (frameYield_rom u hk).trans (hrom k hk)

/-- Settles O15: a ROM address reads a byte of the array, and neither a step of the machine, nor the host's turn, nor a reset
changes one. -/
theorem romIsImmutable : Obligations.RomIsImmutable := by
  intro s t h a ha
  have hb := backed_rom ha
  rw [readByte_backed hb, readByte_backed hb]
  exact step_rom h ha

/-! ### The rows of the map -/

/-- The rows of the map exclude each other (20_memory.md R70). -/
theorem regionOf_of_holds {r : Region} {a : Word} (h : r.holds a.toNat) : regionOf a = r := by
  cases r <;> simp only [Region.holds] at h <;> simp (disch := omega) only [regionOf, if_pos, if_neg]

/-- An array takes the byte written to an address it backs, ROM apart (20_memory.md R72, R74, R76, R77). -/
theorem writeByte_array {s : State} {a : Word} (v : Byte) (hb : backed a.toNat = true) (hrom : 0x8000 ≤ a.toNat) :
    s.writeByte a v = s.store a.toNat v := by
  simp only [backed, Bool.or_eq_true, decide_eq_true_eq] at hb
  have hr := regionOf_spec a
  unfold State.writeByte
  split <;> rename_i hx <;> rw [hx] at hr <;> simp only [Region.holds] at hr
  all_goals omega

theorem writeByte_rom {s : State} {a : Word} (v : Byte) (h : a.toNat < 0x8000) : s.writeByte a v = s := by
  rw [State.writeByte, regionOf_of_holds (r := .rom) h]

/-- The dispatcher drops a write to the address and answers the open-bus value (20_memory.md R82). -/
def OpenBus (s : State) (a : Word) : Prop := (∀ v, s.writeByte a v = s) ∧ s.readByte a = 0xFF#8

/-- The rows that nothing backs (20_memory.md R73, R75). -/
theorem openBus_of_row (s : State) {a : Word} {r : Region} (hr : r = .cartRam ∨ r = .echo ∨ r = .unusable)
    (h : r.holds a.toNat) : OpenBus s a := by
  have ha := regionOf_of_holds h
  rcases hr with rfl | rfl | rfl
  all_goals exact ⟨fun v => by rw [State.writeByte, ha], by rw [State.readByte, ha]; rfl⟩

theorem IoReg.offset_mem (r : IoReg) : r.offset ∈ ioOffsets := by cases r <;> decide

theorem ioRegAt_eq_none {k : Nat} (h : k ∉ ioOffsets) : ioRegAt k = none := by
  cases hk : ioRegAt k with
  | none => rfl
  | some r => exact absurd (ioRegAt_offset hk ▸ r.offset_mem) h

/-- The unimplemented addresses of the I/O window (20_memory.md R84). -/
theorem openBus_of_gap (s : State) {a : Word} (h : Region.holds .io a.toNat) (hk : a.toNat - 0xFF00 ∉ ioOffsets) :
    OpenBus s a := by
  have ha := regionOf_of_holds h
  have hn := ioRegAt_eq_none hk
  exact ⟨fun v => by rw [State.writeByte, ha, hn]; rfl, readByte_unmapped ha hn⟩

/-- Settles O9: ROM by its row, then each unbacked range by its row, and the gaps of the I/O window. -/
theorem droppedWrites : Obligations.DroppedWrites := by
  intro s a v
  refine ⟨fun h => ⟨writeByte_rom v h, readByte_backed (backed_rom h)⟩, fun h => ?_⟩
  have hopen : OpenBus s a := by
    rcases h with h | h | h | ⟨hge, hlt, hk⟩
    · exact openBus_of_row s (r := .cartRam) (.inl rfl) h
    · exact openBus_of_row s (r := .echo) (.inr (.inl rfl)) h
    · exact openBus_of_row s (r := .unusable) (.inr (.inr rfl)) h
    · exact openBus_of_gap s ⟨hge, hlt⟩ hk
  exact ⟨hopen.1 v, hopen.2⟩

/-- Settles O10: a write to RAM is a store in its array, and the laws of memory say what the store leaves. -/
theorem ramReadAfterWrite : Obligations.RamReadAfterWrite := by
  intro s a v hw hram
  have hb : backed a.toNat = true := by
    simp only [backed, Bool.or_eq_true, decide_eq_true_eq]
    omega
  rw [writeByte_array v hb (by omega)]
  exact ⟨readByte_store_self hw hb v, fun x hx => readByte_store_ne s _ v (mt BitVec.eq_of_toNat_eq hx), rfl, readByte_backed hb,
    Memory.get_put_self hw _ v, fun k hk => Memory.get_put_ne s.mem _ v hk, Memory.put_wf v hb hw⟩

/-! ### The I/O window -/

/-- A write at the address of an implemented I/O register is the write column of 20_memory.md R84. -/
theorem writeByte_addr (s : State) (r : IoReg) (v : Byte) : s.writeByte r.addr v = s.writeIo (some r) v := by
  rw [State.writeByte, r.region, r.at_addr]

theorem writeByte_ie (s : State) (v : Byte) : s.writeByte 0xFFFF#16 v = { s with irq := { s.irq with ie := v } } := by
  rw [State.writeByte, show regionOf 0xFFFF#16 = .ie by decide]

/-- Bits 7 to 5 of IF read as 1 (R84). -/
theorem readIo_iflag (s : State) : s.readIo (some .iflag) = 0xE0#8 ||| BitVec.setWidth 8 s.irq.flags := by
  show 0b111#3 ++ s.irq.flags = _
  generalize s.irq.flags = f
  revert f
  decide

theorem stat_fields (sel : BitVec 4) (c : Bool) (m : PpuMode) :
    (1#1 ++ sel ++ BitVec.ofBool c ++ m.bits : Byte) =
      0x80#8 ||| BitVec.setWidth 8 sel <<< 3 ||| (if c = true then 0x04#8 else 0x00#8) ||| BitVec.ofNat 8 m.number := by
  cases m <;> revert sel c <;> decide

theorem readIo_stat (s : State) : s.readIo (some .stat) = 0x80#8 ||| BitVec.setWidth 8 s.io.statSel <<< 3 |||
    (if s.ppu.ly = s.io.lyc.toNat then 0x04#8 else 0x00#8) ||| BitVec.ofNat 8 s.ppu.mode.number := by
  have h := stat_fields s.io.statSel (decide (s.ppu.ly = s.io.lyc.toNat)) s.ppu.mode
  simp only [decide_eq_true_eq] at h
  exact h

/-- Settles O11: the read and the write column of R84 register by register, then IE, then the gaps of the window. -/
theorem ioRegisters : Obligations.IoRegisters := by
  intro s v
  have rd := readByte_addr s
  have wr := fun r => writeByte_addr s r v
  refine ⟨⟨rd .p1, rd .div, (rd .iflag).trans (readIo_iflag s), rd .lcdc, (rd .stat).trans (readIo_stat s), rd .scy, rd .scx,
      rd .ly, rd .lyc, rd .dma, rd .bgp, rd .obp0, rd .obp1, rd .wy, rd .wx, readByte_ie s⟩,
    ⟨wr .p1, wr .div, wr .iflag, wr .lcdc, wr .stat, wr .scy, wr .scx, wr .ly, wr .lyc, wr .dma, wr .bgp, wr .obp0, wr .obp1,
      wr .wy, wr .wx, writeByte_ie s v⟩, fun a hge hlt hk => ?_⟩
  obtain ⟨hwrite, hread⟩ := openBus_of_gap s ⟨hge, hlt⟩ hk
  exact ⟨hread, hwrite v⟩

/-! ### The OAM copy -/

theorem writeByte_dma (s : State) (v : Byte) :
    s.writeByte 0xFF46#16 v = State.oamCopy { s with io := { s.io with dma := v } } v := writeByte_addr s .dma v

/-- Of the stored I/O registers the copy leaves all but the latch as they are (20_memory.md R90). -/
theorem writeByte_dma_io (s : State) (v : Byte) : (s.writeByte 0xFF46#16 v).io = { s.io with dma := v } := by
  rw [writeByte_dma]
  exact (oamCopy_done _ v).io

/-- Outside OAM, the latch and, for page 0xFF, DIV, a write to the DMA register is not seen. -/
theorem not_touched_dma {v : Byte} {x : Word} (hoam : ¬(0xFE00 ≤ x.toNat ∧ x.toNat < 0xFEA0)) (hx : x ≠ 0xFF46#16)
    (hdiv : v = 0xFF#8 → x ≠ divAddr) : ¬Touched 0xFF46#16 v x := by
  rintro (h | ⟨h, -⟩ | ⟨-, h⟩ | ⟨-, hv, h⟩)
  · exact hx h
  · exact absurd h (by decide)
  · exact hoam h
  · exact hdiv hv h

/-- Settles O12: the write's whole effect (`writeByte_effect`), what every write keeps, and the latch. -/
theorem oamCopy : Obligations.OamCopy := by
  intro s v hw t
  have hk := writeByte_keeps s 0xFF46#16 v
  have hio := writeByte_dma_io s v
  obtain ⟨-, -, -, -, -, hext, hirq, -, -, hcopy, hother⟩ := writeByte_effect hw 0xFF46#16 v
  refine ⟨?_, hcopy rfl, fun x hoam hx hdiv => hother x (not_touched_dma hoam hx hdiv), hk.regs, hk.ctl,
    hirq (by decide), hk.ppu, hio, hk.out, hk.buttons, hk.params, hk.wf hw, ?_⟩
  · rw [readByte_dma, hio]
  · simpa only [true_and] using hext

end Sys2Proof.Machine
end

section
/-! Decoder and encoder: what a successful decode read, row by row of Table E1, and the obligations of 30_encoding.md. -/
namespace Sys2Proof

/-! ### What the decoder reads -/

/-- After an opcode byte of this entry, the operand bytes spell the instruction (30_encoding.md R130, R142, R144). -/
inductive Entry.Reads : Entry → List Byte → Instr → Prop
  | one (i : Instr) : Reads (.one i) [] i
  | two (mk : Byte → Instr) (n : Byte) : Reads (.two mk) [n] (mk n)
  | three (mk : Word → Instr) (l h : Byte) : Reads (.three mk) [l, h] (mk (cat h l))
  | twoUnread (i : Instr) (n : Byte) : Reads (.twoUnread i) [n] i
  | extended (b1 : Byte) : Reads .extended [b1] (decodeExt b1)

/-- The decoder reads the operand bytes of the opcode's entry, and nothing else decodes. -/
theorem decode_cons_iff {b0 : Byte} {tail rest : List Byte} {i : Instr} :
    decode (b0 :: tail) = .ok (i, rest) ↔ ∃ ops, tail = ops ++ rest ∧ (entryE1 b0).Reads ops i := by
  constructor
  · intro h
    unfold decode at h
    dsimp only at h
    split at h
    case h_1 he => cases h; exact ⟨[], rfl, he ▸ .one _⟩
    case h_2 he => cases h; exact ⟨[_], rfl, he ▸ .two _ _⟩
    case h_3 he => cases h; exact ⟨[_, _], rfl, he ▸ .three _ _ _⟩
    case h_4 he => cases h; exact ⟨[_], rfl, he ▸ .twoUnread _ _⟩
    case h_5 he => cases h; exact ⟨[_], rfl, he ▸ .extended _⟩
    case h_6 => cases h
  · rintro ⟨ops, rfl, h⟩
    generalize he : entryE1 b0 = e at h
    cases h <;> simp only [decode, he, List.nil_append, List.cons_append]

/-- The number of operand bytes of an entry. -/
def Entry.operandBytes : Entry → Nat
  | .one _ => 0
  | .two _ | .twoUnread _ | .extended => 1
  | .three _ => 2

theorem Entry.Reads.length_eq {e : Entry} {ops : List Byte} {i : Instr} (h : e.Reads ops i) : ops.length = e.operandBytes := by
  cases h <;> rfl

/-- Enough bytes after the opcode spell an instruction. -/
theorem Entry.exists_reads (e : Entry) {tail : List Byte} (h : e.operandBytes ≤ tail.length) :
    ∃ ops rest i, tail = ops ++ rest ∧ e.Reads ops i := by
  match e, tail, h with
  | .one i, tail, _ => exact ⟨[], tail, i, rfl, .one i⟩
  | .two mk, n :: rest, _ => exact ⟨[n], rest, mk n, rfl, .two mk n⟩
  | .three mk, l :: h :: rest, _ => exact ⟨[l, h], rest, _, rfl, .three mk l h⟩
  | .twoUnread i, n :: rest, _ => exact ⟨[n], rest, i, rfl, .twoUnread i n⟩
  | .extended, b1 :: rest, _ => exact ⟨[b1], rest, _, rfl, .extended b1⟩

/-! ### The length of an encoding -/

/-- The length column of Table E1. -/
theorem lengthOf_eq (b0 : Byte) : lengthOf b0 = (entryE1 b0).operandBytes + 1 := by
  revert b0
  decide

/-- Settles O3: a decode reads the opcode and the operand bytes of its entry, and these suffice. -/
theorem lengthFromFirstByte : Obligations.LengthFromFirstByte := by
  intro b0 tail
  rw [lengthOf_eq, List.length_cons]
  constructor
  · intro i rest h
    obtain ⟨ops, rfl, hr⟩ := decode_cons_iff.mp h
    rw [List.length_append, hr.length_eq]
    omega
  · intro h
    obtain ⟨ops, rest, i, htail, hr⟩ := (entryE1 b0).exists_reads (Nat.le_of_succ_le_succ h)
    exact ⟨i, rest, decode_cons_iff.mpr ⟨ops, htail, hr⟩⟩

/-! ### Decoding an encoding -/

/-- An immediate word is stored low byte first, and read back so (30_encoding.md R133). -/
theorem decode_word {b0 : Byte} {mk : Word → Instr} (h : entryE1 b0 = .three mk) (w : Word) (rest : List Byte) :
    decode ([b0, lo w, hi w] ++ rest) = .ok (mk w, rest) :=
  decode_cons_iff.mpr ⟨[lo w, hi w], rfl, by rw [h]; simpa using Entry.Reads.three mk (lo w) (hi w)⟩

/-- Settles O1: where an immediate word follows the opcode, its halves are joined again; every other encoding holds its
instruction's own row of Table E1 or E2, and its byte operand as it is. -/
theorem decodeEncode : Obligations.DecodeEncode := by
  intro i rest
  cases i with
  | ldBcD16 n | ldAtA16Sp n | ldDeD16 n | ldHlD16 n | ldSpD16 n | jpNzA16 n | jpA16 n | callNzA16 n | jpZA16 n | callZA16 n
  | callA16 n | jpNcA16 n | callNcA16 n | jpCA16 n | callCA16 n | ldAtA16A n | ldAAtA16 n => exact decode_word rfl n rest
  | _ => rfl

/-! ### Encoding what was decoded -/

/-- The encoder writes this opcode byte, then the operand, for each instruction of the entry. Left out are the unread byte, which
only STOP has, and the byte after 0xCB, whose encodings are `encode_decodeExt`. -/
def Entry.EncodedAt (b0 : Byte) : Entry → Prop
  | .one i => encode i = [b0]
  | .two mk => encode ∘ mk = fun n => [b0, n]
  | .three mk => encode ∘ mk = fun w => [b0, lo w, hi w]
  | .twoUnread i => i = .stop
  | .extended => b0 = 0xCB#8

/-- Table E1, row by row. -/
theorem entryE1_encodedAt (b0 : Byte) : (entryE1 b0).EncodedAt b0 := by
  obtain ⟨k, hk, rfl⟩ : ∃ k < 256, BitVec.ofNat 8 k = b0 := ⟨b0.toNat, b0.isLt, by simp⟩
  interval_cases k <;> exact rfl

/-- Table E2, row by row. -/
theorem encode_decodeExt (b1 : Byte) : encode (decodeExt b1) = [0xCB#8, b1] := by
  revert b1
  decide

theorem Entry.Reads.encode_eq {e : Entry} {b0 : Byte} {ops : List Byte} {i : Instr} (h : e.Reads ops i)
    (he : e.EncodedAt b0) (hstop : i ≠ .stop) : encode i = b0 :: ops := by
  cases h with
  | one => exact he
  | two _ n => exact congrFun he n
  | three _ l h => simpa using congrFun he (cat h l)
  | twoUnread => exact absurd he hstop
  | extended b1 => rw [encode_decodeExt, show b0 = 0xCB#8 from he]

/-- Settles O2: what an entry reads, the encoder writes. -/
theorem encodeDecode : Obligations.EncodeDecode := by
  intro bytes i rest h hstop
  cases bytes with
  | nil => cases h
  | cons b0 tail =>
    obtain ⟨ops, rfl, hr⟩ := decode_cons_iff.mp h
    rw [hr.encode_eq (entryE1_encodedAt b0) hstop, List.cons_append]

/-! ### The illegal opcodes -/

/-- A term that is no defined instruction is encoded as one illegal opcode (30_encoding.md R141). -/
theorem encode_of_not_wellFormed {i : Instr} (h : i.wellFormed = false) : ∃ b ∈ illegalOps, encode i = [b] := by
  unfold Instr.wellFormed at h
  split at h
  case h_12 => cases h
  all_goals exact ⟨_, by decide, rfl⟩

/-- The entry of an illegal opcode is a term that is no defined instruction. -/
theorem entryE1_of_illegal {b : Byte} (h : b ∈ illegalOps) : ∃ i, entryE1 b = .one i ∧ i.wellFormed = false := by
  revert b
  simp only [illegalOps, List.forall_mem_cons]
  refine ⟨?_, ?_, ?_, ?_, ?_, ?_, ?_, ?_, ?_, ?_, ?_, List.forall_mem_nil _⟩
  all_goals exact ⟨_, rfl, rfl⟩

/-- Settles O4: a term that is no instruction is encoded as an illegal opcode, so it was read from one; and the row of an
illegal opcode holds such a term. -/
theorem illegalOpcodes : Obligations.IllegalOpcodes := by
  intro b0 tail i rest h
  constructor
  · intro hwf
    obtain ⟨b, hb, henc⟩ := encode_of_not_wellFormed hwf
    have hbytes := encodeDecode _ i rest h (by rintro rfl; cases hwf)
    rw [henc] at hbytes
    obtain ⟨rfl, -⟩ := List.cons.inj hbytes
    exact hb
  · intro hb
    obtain ⟨j, hj, hwf⟩ := entryE1_of_illegal hb
    obtain ⟨ops, -, hr⟩ := decode_cons_iff.mp h
    rw [hj] at hr
    cases hr
    exact hwf

end Sys2Proof
end

section
/-! The 8-bit loads (40_load8.md): what the loads into a register, the stores, and the loads and stores of A that step HL do. -/

namespace Sys2Proof

/-! ### The bytes of a form -/

/-- What the encoder writes spells the instruction (30_encoding.md R142). -/
theorem spells_of_encode {bytes : List Byte} {i : Instr} (h : encode i = bytes) : Spells bytes i :=
  h ▸ decodeEncode i

theorem encode_ld (dst r : Reg8) : encode (Form.ld dst r) = [opXYZ 1 dst.code r.code] := by
  cases dst <;> cases r <;> rfl

theorem encode_ldFromHl (dst : Reg8) : encode (Form.ldFromHl dst) = [opXYZ 1 dst.code 6] := by cases dst <;> rfl

theorem encode_ldToHl (r : Reg8) : encode (Form.ldToHl r) = [opXYZ 1 6 r.code] := by cases r <;> rfl

theorem encode_ldImm (dst : Reg8) (n : Byte) : encode (Form.ldImm dst n) = [opXYZ 0 dst.code 6, n] := by cases dst <;> rfl

/-- The offset into page 0xFF is added to 0xFF00 (30_encoding.md R133). -/
theorem page0xFF_eq_add (v : Byte) : page0xFF v = 0xFF00#16 + BitVec.setWidth 16 v := by
  apply BitVec.eq_of_toNat_eq
  rw [page0xFF, Machine.cat_toNat, BitVec.toNat_add, BitVec.toNat_setWidth]
  have := v.isLt
  simp only [BitVec.toNat_ofNat]
  omega

end Sys2Proof

namespace Sys2Proof.Machine

/-! ### The meaning of a form -/

theorem exec_ld (dst r : Reg8) (s : State) : exec (Form.ld dst r) s = .next (ldReg dst r s) := by
  cases dst <;> cases r <;> rfl

theorem exec_ldFromHl (dst : Reg8) (s : State) : exec (Form.ldFromHl dst) s = .next (ldFromHl dst s) := by cases dst <;> rfl

theorem exec_ldToHl (r : Reg8) (s : State) : exec (Form.ldToHl r) s = .next (ldToHl r s) := by cases r <;> rfl

theorem exec_ldImm (dst : Reg8) (n : Byte) (s : State) : exec (Form.ldImm dst n) s = .next (ldImm dst n s) := by
  cases dst <;> rfl

/-! ### A register loaded -/

/-- The end of an instruction and a change of registers leave everything else alone. -/
theorem finish_mapRegs_world (s : State) (u : Regs → Regs) (len n : Nat) : SameWorld s ((s.mapRegs u).finish len n) :=
  ⟨rfl, rfl, rfl, rfl, rfl, rfl, rfl, rfl⟩

theorem get8_finish (s : State) (len n : Nat) (r : Reg8) : (s.finish len n).regs.get8 r = s.regs.get8 r := by cases r <;> rfl

/-- The registers at the end of an instruction that puts `v` into `r`: `u` is the state where the operand has been read. -/
theorem finish_set8_regs {s u : State} (hu : u.regs = s.regs) (r : Reg8) (v : Byte) (len n : Nat) :
    ((u.mapRegs fun g => g.set8 r v).finish len n).regs.get8 r = v ∧
      RegsKept [r] s ((u.mapRegs fun g => g.set8 r v).finish len n) ∧
      Ends ((u.mapRegs fun g => g.set8 r v).finish len n) (s.regs.pc + BitVec.ofNat 16 len) n := by
  refine ⟨?_, regsKept_set8 r v ?_, finish_ends ?_ len n⟩
  · rw [get8_finish, mapRegs_regs, get8_set8_self]
  · rw [finish_regs, mapRegs_regs, hu]
  · rw [mapRegs_regs, set8_pc, hu]

/-- Settles O16: the form is `ldReg`, which changes registers only. -/
theorem loadRegister : Obligations.LoadRegister := by
  intro dst r s
  obtain ⟨hdst, hkept, hends⟩ := finish_set8_regs (s := s) rfl dst (s.regs.get8 r) 1 4
  exact ⟨spells_of_encode (encode_ld dst r), _, exec_ld dst r s, hdst, hkept, (finish_mapRegs_world s _ 1 4).onlyRegs, hends⟩

/-- Settles O19: the form is `ldImm`, which changes registers only. -/
theorem loadImmediate : Obligations.LoadImmediate := by
  intro dst n s
  obtain ⟨hdst, hkept, hends⟩ := finish_set8_regs (s := s) rfl dst n 2 8
  exact ⟨spells_of_encode (encode_ldImm dst n), _, exec_ldImm dst n s, hdst, hkept, (finish_mapRegs_world s _ 2 8).onlyRegs, hends⟩

/-- Settles O17: the form is `ldFromHl`, which reads at HL before it writes the register. -/
theorem loadFromHl : Obligations.LoadFromHl := by
  intro dst s
  obtain ⟨hdst, hkept, hends⟩ := finish_set8_regs (afterRead_regs s s.hl) dst (s.readByte s.hl) 1 8
  exact ⟨spells_of_encode (encode_ldFromHl dst), _, exec_ldFromHl dst s, hdst, hkept,
    (finish_mapRegs_world _ _ 1 8).readEffect (afterRead_effect s s.hl), hends⟩

/-! ### A byte stored -/

/-- The store of `v` at `a` and the end of the instruction. -/
theorem finish_writeByte_effect {s : State} (hw : s.mem.wf = true) (a : Word) (v : Byte) (len n : Nat) :
    StoreEffect s ((s.writeByte a v).finish len n) a v ∧ RegsKept [] s ((s.writeByte a v).finish len n) ∧
      Ends ((s.writeByte a v).finish len n) (s.regs.pc + BitVec.ofNat 16 len) n := by
  refine ⟨(jump_world _ _ n).storeEffect (writeByte_effect hw a v), regsKept_nil ?_, finish_ends ?_ len n⟩
  · rw [finish_regs, writeByte_regs]
  · rw [writeByte_regs]

/-- Settles O18: each form is one store at HL. -/
theorem storeToHl : Obligations.StoreToHl := by
  intro s hw
  refine ⟨fun r => ?_, fun n => ?_⟩
  · exact ⟨spells_of_encode (encode_ldToHl r), _, exec_ldToHl r s, finish_writeByte_effect hw s.hl (s.regs.get8 r) 1 8⟩
  · exact ⟨spells_of_encode rfl, _, rfl, finish_writeByte_effect hw s.hl n 2 12⟩

/-! ### A loaded or stored at an address that the form gives -/

theorem loadsA_of_exec {i : Instr} {a : State → Word} {len n : Nat} (h : ∀ s, exec i s = .next (loadA (a s) len n s)) :
    LoadsA i a len n :=
  fun s => ⟨_, h s, loadA_effect (a s) len n s⟩

theorem storesA_of_exec {i : Instr} {a : State → Word} {len n : Nat} (h : ∀ s, exec i s = .next (storeA (a s) len n s)) :
    StoresA i a len n :=
  fun s hw => ⟨_, h s, storeA_effect hw (a s) len n⟩

/-- Settles O20: each form is `loadA` at its address; the last two add their offset to 0xFF00. -/
theorem loadAccumulator : Obligations.LoadAccumulator := by
  refine ⟨⟨spells_of_encode rfl, loadsA_of_exec fun _ => rfl⟩, ⟨spells_of_encode rfl, loadsA_of_exec fun _ => rfl⟩,
    fun _ => ⟨spells_of_encode rfl, loadsA_of_exec fun _ => rfl⟩,
    fun _ => ⟨spells_of_encode rfl, loadsA_of_exec fun _ => ?_⟩, spells_of_encode rfl, loadsA_of_exec fun _ => ?_⟩
  all_goals rw [← page0xFF_eq_add]; rfl

/-- Settles O21: each form is `storeA` at its address; the last two add their offset to 0xFF00. -/
theorem storeAccumulator : Obligations.StoreAccumulator := by
  refine ⟨⟨spells_of_encode rfl, storesA_of_exec fun _ => rfl⟩, ⟨spells_of_encode rfl, storesA_of_exec fun _ => rfl⟩,
    fun _ => ⟨spells_of_encode rfl, storesA_of_exec fun _ => rfl⟩,
    fun _ => ⟨spells_of_encode rfl, storesA_of_exec fun _ => ?_⟩, spells_of_encode rfl, storesA_of_exec fun _ => ?_⟩
  all_goals rw [← page0xFF_eq_add]; rfl

/-! ### HL stepped after the access -/

/-- Adding 0xFFFF is the step down modulo 65536 (40_load8.md R210, R212). -/
theorem add_0xFFFF (v : Word) : v + 0xFFFF#16 = v - 1#16 := (BitVec.sub_eq_add_neg v 1#16).symm

/-- The registers at the end of an instruction that last puts `v` into HL: `u` is the state before, where the registers of `l` may
already have changed. -/
theorem finish_setHl_regs {s u : State} {l : List Reg8} (hk : RegsKept l s u) (hpc : u.regs.pc = s.regs.pc) (v : Word)
    (len n : Nat) :
    ((u.mapRegs fun g => g.setPair .hl v).finish len n).hl = v ∧
      RegsKept (l ++ [.h, .l]) s ((u.mapRegs fun g => g.setPair .hl v).finish len n) ∧
      Ends ((u.mapRegs fun g => g.setPair .hl v).finish len n) (s.regs.pc + BitVec.ofNat 16 len) n := by
  obtain ⟨hget, hf, hsp⟩ := hk
  refine ⟨getPair_setPair_self u.regs .hl v, ⟨fun q hq => ?_, hf, hsp⟩, finish_ends hpc len n⟩
  rw [List.mem_append, not_or] at hq
  obtain ⟨hl, hhl⟩ := hq
  calc ((u.mapRegs fun g => g.setPair .hl v).finish len n).regs.get8 q
    _ = (u.regs.setPair .hl v).get8 q := get8_finish _ len n q
    _ = u.regs.get8 q := get8_setPair (p := .hl) u.regs v hhl
    _ = s.regs.get8 q := hget q hl

/-- Neither the read nor the change of A moves HL, so the step is from the address of the access. -/
theorem loadAStep_eq (d : Word) (s : State) :
    loadAStep d s =
      (((s.afterRead s.hl).mapRegs fun g => g.set8 .a (s.readByte s.hl)).mapRegs fun g => g.setPair .hl (s.hl + d)).finish 1 8 := by
  have hhl : (s.afterRead s.hl).regs.hl = s.hl := congrArg Regs.hl (afterRead_regs s s.hl)
  rw [show s.hl + d = (s.afterRead s.hl).regs.hl + d by rw [hhl]]
  rfl

/-- The write does not move HL, so the step is from the address of the access. -/
theorem storeAStep_eq (d : Word) (s : State) :
    storeAStep d s = ((s.writeByte s.hl s.regs.a).mapRegs fun g => g.setPair .hl (s.hl + d)).finish 1 8 := by
  have hhl : (s.writeByte s.hl s.regs.a).regs.hl = s.hl := congrArg Regs.hl (writeByte_regs s s.hl s.regs.a)
  rw [show s.hl + d = (s.writeByte s.hl s.regs.a).regs.hl + d by rw [hhl]]
  rfl

/-- The load of A at HL, which then moves by `d` (R209, R210). -/
theorem loadAStep_effect (d : Word) (s : State) :
    (loadAStep d s).regs.a = s.readByte s.hl ∧ (loadAStep d s).hl = s.hl + d ∧ RegsKept [.a, .h, .l] s (loadAStep d s) ∧
      ReadEffect s (loadAStep d s) s.hl ∧ Ends (loadAStep d s) (s.regs.pc + 1#16) 8 := by
  have hkept : RegsKept [.a] s ((s.afterRead s.hl).mapRegs fun g => g.set8 .a (s.readByte s.hl)) :=
    regsKept_set8 .a (s.readByte s.hl) (by rw [mapRegs_regs, afterRead_regs])
  have hpc : ((s.afterRead s.hl).mapRegs fun g => g.set8 .a (s.readByte s.hl)).regs.pc = s.regs.pc := by
    rw [mapRegs_regs, set8_pc, afterRead_regs]
  obtain ⟨hhl, hregs, hends⟩ := finish_setHl_regs hkept hpc (s.hl + d) 1 8
  have hread : ReadEffect s (loadAStep d s) s.hl := (finish_mapRegs_world _ _ 1 8).readEffect (afterRead_effect s s.hl)
  rw [loadAStep_eq] at hread ⊢
  exact ⟨rfl, hhl, hregs, hread, hends⟩

/-- The store of A at HL, which then moves by `d` (R211, R212). -/
theorem storeAStep_effect {s : State} (hw : s.mem.wf = true) (d : Word) :
    StoreEffect s (storeAStep d s) s.hl s.regs.a ∧ (storeAStep d s).hl = s.hl + d ∧ RegsKept [.h, .l] s (storeAStep d s) ∧
      Ends (storeAStep d s) (s.regs.pc + 1#16) 8 := by
  have hkept : RegsKept [] s (s.writeByte s.hl s.regs.a) := regsKept_nil (by rw [writeByte_regs])
  have hpc : (s.writeByte s.hl s.regs.a).regs.pc = s.regs.pc := by rw [writeByte_regs]
  rw [storeAStep_eq]
  exact ⟨(finish_mapRegs_world _ _ 1 8).storeEffect (writeByte_effect hw s.hl s.regs.a),
    finish_setHl_regs hkept hpc (s.hl + d) 1 8⟩

/-- Settles O22: each form is `loadAStep` or `storeAStep`, by 1 for HL+ and by 0xFFFF for HL-. -/
theorem accumulatorSteppingHl : Obligations.AccumulatorSteppingHl := by
  intro s
  have hdown := add_0xFFFF s.hl
  exact ⟨⟨spells_of_encode rfl, _, rfl, loadAStep_effect 1#16 s⟩,
    ⟨spells_of_encode rfl, _, rfl, hdown ▸ loadAStep_effect 0xFFFF#16 s⟩,
    ⟨spells_of_encode rfl, fun hw => ⟨_, rfl, storeAStep_effect hw 1#16⟩⟩,
    ⟨spells_of_encode rfl, fun hw => ⟨_, rfl, hdown ▸ storeAStep_effect hw 0xFFFF#16⟩⟩⟩

end Sys2Proof.Machine
end

section
/-! The 16-bit loads and the stack (41_load16.md, and ADD SP,e8 of 43_alu16.md): what the loads of a pair, the sum of SP and a signed
byte, and the pushes and pops of a pair do. -/

namespace Sys2Proof

/-! ### The bytes of a form -/

theorem encode_ldPair (p : Pair) (n : Word) : encode (Form.ldPair p n) = [opXP 0 p.code 1, lo n, hi n] := by cases p <;> rfl

theorem encode_push (p : StackPair) : encode (Form.push p) = [opXP 3 p.code 5] := by cases p <;> rfl

theorem encode_pop (p : StackPair) : encode (Form.pop p) = [opXP 3 p.code 1] := by cases p <;> rfl

end Sys2Proof

namespace Sys2Proof.Machine

/-! ### The meaning of a form -/

theorem exec_ldPair (p : Pair) (n : Word) (s : State) : exec (Form.ldPair p n) s = .next (ldPair p n s) := by cases p <;> rfl

theorem exec_push (p : StackPair) (s : State) : exec (Form.push p) s = .next (push p s) := by cases p <;> rfl

theorem exec_pop (p : StackPair) (s : State) : exec (Form.pop p) s = .next (pop p s) := by cases p <;> rfl

/-! ### Pairs at the end of an instruction -/

/-- No pair is a view of PC. -/
theorem getPair_finish (s : State) (len n : Nat) (p : Pair) : (s.finish len n).regs.getPair p = s.regs.getPair p := by
  cases p <;> rfl

/-- No stack pair is a view of PC. -/
theorem getStackPair_finish (s : State) (len n : Nat) (p : StackPair) :
    (s.finish len n).regs.getStackPair p = s.regs.getStackPair p := by
  cases p <;> rfl

/-! ### A pair loaded -/

/-- `R16[p] <- v` and the end of the instruction (R230). -/
theorem ldPair_effect (p : Pair) (v : Word) (s : State) :
    (ldPair p v s).regs.getPair p = v ∧ RegsKeptButSp p.halves s (ldPair p v s) ∧
      (p ≠ .sp → (ldPair p v s).regs.sp = s.regs.sp) ∧ OnlyRegs s (ldPair p v s) ∧
      Ends (ldPair p v s) (s.regs.pc + 3#16) 12 := by
  obtain ⟨hkept, hsp⟩ := regsKeptButSp_setPair (s := s) (t := ldPair p v s) p v rfl
  refine ⟨?_, hkept, hsp, (finish_mapRegs_world s _ 3 12).onlyRegs, finish_ends (setPair_pc s.regs p v) 3 12⟩
  calc (ldPair p v s).regs.getPair p
    _ = (s.regs.setPair p v).getPair p := getPair_finish _ 3 12 p
    _ = v := getPair_setPair_self s.regs p v

/-- `SP <- HL` is the write of the pair SP, which has no 8-bit halves (R232). -/
theorem ldSpHl_effect (s : State) :
    (ldSpHl s).regs.sp = s.hl ∧ RegsKeptButSp [] s (ldSpHl s) ∧ OnlyRegs s (ldSpHl s) ∧
      Ends (ldSpHl s) (s.regs.pc + 1#16) 8 := by
  obtain ⟨hkept, -⟩ := regsKeptButSp_setPair (s := s) (t := ldSpHl s) .sp s.hl rfl
  exact ⟨rfl, hkept, (finish_mapRegs_world s (fun g => g.setPair .sp s.hl) 1 8).onlyRegs, finish_ends rfl 1 8⟩

/-- Settles O23: the form is `ldPair`, and `LD SP,HL` writes the pair SP; both change registers only. -/
theorem loadPair : Obligations.LoadPair := by
  intro s
  exact ⟨fun p n => ⟨spells_of_encode (encode_ldPair p n), _, exec_ldPair p n s, ldPair_effect p n s⟩,
    spells_of_encode rfl, _, rfl, ldSpHl_effect s⟩

/-! ### SP stored -/

/-- Settles O24: the second write is made in the state that the first one leaves, whose memory is canonical too. -/
theorem storeStackPointer : Obligations.StoreStackPointer := by
  intro n s hw
  have hwf : (s.writeByte n (lo s.regs.sp)).mem.wf = true := (writeByte_keeps s n (lo s.regs.sp)).wf hw
  obtain ⟨hsecond, hkept, hends⟩ := finish_writeByte_effect hwf (n + 1#16) (hi s.regs.sp) 3 20
  simp only [RegsKept, writeByte_regs] at hkept hends
  exact ⟨spells_of_encode rfl, _, rfl, ⟨writeByte_effect hw n (lo s.regs.sp), hsecond⟩, hkept, hends⟩

/-! ### SP plus a signed byte -/

/-- The sum is SP plus the byte as a signed number, modulo 65536 (R233, R303). -/
theorem addSigned_toNat (sp : Word) (u : Byte) : ((addSigned sp u).1.toNat : Int) = (sp.toNat + u.toInt) % 65536 := by
  have hsext : ((sext16 u).toNat : Int) = u.toInt % 65536 := by
    rw [sext16, BitVec.signExtend, BitVec.toNat_ofInt, Int.toNat_of_nonneg (Int.emod_nonneg _ (by decide))]
    rfl
  have hsum : (addSigned sp u).1.toNat = (sp.toNat + (sext16 u).toNat) % 65536 := BitVec.toNat_add sp (sext16 u)
  omega

/-- Settles O25: the flags are those of `addSigned`; `LD HL,SP+e8` puts its sum into HL, and `ADD SP,e8` into SP. -/
theorem stackPointerOffset : Obligations.StackPointerOffset := by
  intro u s f
  refine ⟨⟨spells_of_encode rfl, ldHlSp u s, rfl, ?_, rfl, regsKeptButF_hl (addSigned s.regs.sp u).1 rfl,
      (finish_mapRegs_world s _ 2 12).onlyRegs, finish_ends rfl 2 12⟩,
    spells_of_encode rfl, addSp u s, rfl, addSigned_toNat s.regs.sp u, rfl, fun r => ?_,
      (finish_mapRegs_world s _ 2 16).onlyRegs, finish_ends rfl 2 16⟩
  · have hhl : (ldHlSp u s).hl = (addSigned s.regs.sp u).1 := getPair_setPair_self s.regs .hl _
    rw [hhl, addSigned_toNat]
  · cases r <;> rfl

/-! ### A pair pushed -/

/-- The byte of F that `PUSH AF` stores has no bit set below the flags (R235). -/
theorem getStackPair_af_low (g : Regs) : (g.getStackPair .af).extractLsb' 0 4 = 0#4 :=
  calc (cat g.a g.f.toByte).extractLsb' 0 4
    _ = g.f.toByte.extractLsb' 0 4 := BitVec.extractLsb'_append_eq_of_add_le (by decide)
    _ = 0#4 := BitVec.extractLsb'_append_eq_right

/-- Settles O26: the form is `push16` of the pair and the end of the instruction. -/
theorem pushPair : Obligations.PushPair := by
  intro p s hw
  exact ⟨spells_of_encode (encode_push p), getStackPair_af_low s.regs, _, exec_push p s, pushEffect_jump hw _ _ 16,
    finish_ends (by rw [push16_regs]) 1 16⟩

/-! ### A pair popped -/

/-- A pop moves SP alone among the registers (00_scope.md R16). -/
theorem get8_afterPop (s : State) (r : Reg8) : s.afterPop.regs.get8 r = s.regs.get8 r := by
  rw [afterPop_regs]
  cases r <;> rfl

/-- Settles O27: the form is `afterPop` and a write of the pair with the value popped. -/
theorem popPair : Obligations.PopPair := by
  intro p s
  obtain ⟨hlow, hhigh, hsp⟩ := afterPop_effect s
  refine ⟨spells_of_encode (encode_pop p), _, exec_pop p s, ?_,
    ⟨hlow, (finish_mapRegs_world _ _ 1 12).readEffect hhigh, ?_⟩, fun r hr => ?_, fun hp => ?_, finish_ends ?_ 1 12⟩
  · calc (pop p s).regs.getStackPair p
      _ = (s.afterPop.regs.setStackPair p (popped s)).getStackPair p := getStackPair_finish _ 1 12 p
      _ = if p = .af then popped s &&& 0xFFF0#16 else popped s := getStackPair_setStackPair _ p (popped s)
  · exact (setStackPair_sp _ p _).trans hsp
  · calc (pop p s).regs.get8 r
      _ = (s.afterPop.regs.setStackPair p (popped s)).get8 r := get8_finish _ 1 12 r
      _ = s.afterPop.regs.get8 r := get8_setStackPair _ (popped s) hr
      _ = s.regs.get8 r := get8_afterPop s r
  · calc (pop p s).regs.f
      _ = s.afterPop.regs.f := setStackPair_f _ (popped s) hp
      _ = s.regs.f := by rw [afterPop_regs]
  · rw [mapRegs_regs, setStackPair_pc, afterPop_regs]

end Sys2Proof.Machine
end

section
/-! 8-bit arithmetic and logic (42_alu8.md): what the operations on A, INC and DEC, DAA and the flag operations do, and the decimal
arithmetic that DAA completes. -/

namespace Sys2Proof

/-! ### The bytes of a form -/

theorem encode_alu (op : AluOp) (r : Reg8) : encode (Form.alu op r) = [opXYZ 2 op.code r.code] := by
  cases op <;> cases r <;> rfl

theorem encode_aluAtHl (op : AluOp) : encode (Form.aluAtHl op) = [opXYZ 2 op.code 6] := by cases op <;> rfl

theorem encode_aluImm (op : AluOp) (n : Byte) : encode (Form.aluImm op n) = [opXYZ 3 op.code 6, n] := by cases op <;> rfl

theorem encode_inc (r : Reg8) : encode (Form.inc r) = [opXYZ 0 r.code 4] := by cases r <;> rfl

theorem encode_dec (r : Reg8) : encode (Form.dec r) = [opXYZ 0 r.code 5] := by cases r <;> rfl

/-! ### Packed decimal numbers -/

/-- The byte, as a number, whose two packed decimal digits write `n` below 100: the inverse of `decimal` (`toNat_eq_bcd`,
`packed_of_toNat`). -/
def bcd (n : Nat) : Nat := 16 * (n / 10) + n % 10

theorem decimal_lt {v : Byte} (h : Packed v) : decimal v < 100 := by
  obtain ⟨htens, hones⟩ := h
  unfold decimal
  omega

theorem toNat_eq_bcd {v : Byte} (h : Packed v) : v.toNat = bcd (decimal v) := by
  obtain ⟨htens, hones⟩ := h
  unfold bcd decimal
  omega

theorem packed_of_toNat {v : Byte} {n : Nat} (hn : n < 100) (h : v.toNat = bcd n) : Packed v ∧ decimal v = n := by
  unfold bcd at h
  refine ⟨⟨?_, ?_⟩, ?_⟩
  · omega
  · omega
  · unfold decimal
    omega

theorem bcd_mod (n : Nat) : bcd n % 16 = n % 10 := by
  unfold bcd
  omega

/-- The decimal carry shows in the binary sum of packed numbers: it is above 0x99. -/
theorem bcd_sum_gt_iff (x y : Nat) {k : Nat} (hk : k < 2) :
    bcd x + bcd y + k > 0x99 ↔ x + y + k ≥ 100 := by
  have htens : x / 10 + y / 10 ≤ 9 ∨ x + y + k ≥ 100 := by omega
  unfold bcd
  omega

/-- DAA after an addition (R279): the sum of two packed numbers and a carry modulo 256, with the flags of that sum, becomes their
packed decimal sum modulo 100 and its decimal carry. -/
theorem daaSpec_add {x y k : Nat} (hx : x < 100) (hy : y < 100) (hk : k < 2) :
    daaSpec ((bcd x + bcd y + k) % 256) false (decide (bcd x % 16 + bcd y % 16 + k > 0x0F)) (decide (bcd x + bcd y + k > 0xFF)) =
      (bcd ((x + y + k) % 100), decide (x + y + k ≥ 100)) := by
  have hcarry : (decide (bcd x + bcd y + k > 0xFF) || decide ((bcd x + bcd y + k) % 256 > 0x99)) = decide (x + y + k ≥ 100) := by
    rw [← Bool.decide_or, decide_eq_decide, ← bcd_sum_gt_iff x y hk]
    omega
  rw [daaSpec, if_neg Bool.false_ne_true]
  simp only [hcarry]
  refine Prod.ext ?_ rfl
  simp only [bcd_mod, Bool.or_eq_true, decide_eq_true_eq]
  unfold bcd
  by_cases hc : x + y + k ≥ 100
  · simp only [if_pos hc]
    split <;> omega
  · simp only [if_neg hc]
    split <;> omega

/-- DAA after a subtraction (R279): `d` is the difference of two packed numbers and a borrow modulo 256. The decimal borrow is the
binary one. -/
theorem daaSpec_sub {x y k d : Nat} (hx : x < 100) (hy : y < 100) (hk : k < 2) (hd : (d : Int) = ((bcd x : Int) - bcd y - k) % 256) :
    daaSpec d true (decide (bcd x % 16 < bcd y % 16 + k)) (decide (bcd x < bcd y + k)) =
      (bcd ((x + 100 - y - k) % 100), decide (x < y + k)) := by
  have hborrow : decide (bcd x < bcd y + k) = decide (x < y + k) := by
    rw [decide_eq_decide]
    unfold bcd
    omega
  rw [daaSpec, if_pos rfl]
  simp only [hborrow]
  refine Prod.ext ?_ rfl
  simp only [bcd_mod, decide_eq_true_eq]
  unfold bcd at hd ⊢
  by_cases hc : x < y + k
  · simp only [if_pos hc]
    split <;> omega
  · simp only [if_neg hc]
    split <;> omega

end Sys2Proof

namespace Sys2Proof.Machine

/-! ### The meaning of a form -/

theorem exec_alu (op : AluOp) (r : Reg8) (s : State) : exec (Form.alu op r) s = .next (aluReg op r s) := by
  cases op <;> cases r <;> rfl

theorem exec_aluAtHl (op : AluOp) (s : State) : exec (Form.aluAtHl op) s = .next (aluHl op s) := by cases op <;> rfl

theorem exec_aluImm (op : AluOp) (n : Byte) (s : State) : exec (Form.aluImm op n) s = .next (aluImm op n s) := by
  cases op <;> rfl

theorem exec_inc (r : Reg8) (s : State) : exec (Form.inc r) s = .next (incReg r s) := by cases r <;> rfl

theorem exec_dec (r : Reg8) (s : State) : exec (Form.dec r) s = .next (decReg r s) := by cases r <;> rfl

/-! ### What the flag computations give, in numbers -/

/-- The test for a zero result is a test of its number. -/
theorem decide_eq_zero_byte (v : Byte) : decide (v = 0#8) = decide (v.toNat = 0) :=
  decide_eq_decide.mpr BitVec.toNat_inj.symm

theorem ofInt_byte_toNat (d : Int) : ((BitVec.ofInt 8 d).toNat : Int) = d % 256 := by
  rw [BitVec.toNat_ofInt]
  exact Int.toNat_of_nonneg (Int.emod_nonneg d (by decide))

theorem add8_value_toNat (a v : Byte) (cin : Bool) : (add8 a v cin).value.toNat = (a.toNat + v.toNat + cin.toNat) % 256 :=
  BitVec.toNat_ofNat _ 8

theorem sub8_value_toNat (a v : Byte) (cin : Bool) :
    ((sub8 a v cin).value.toNat : Int) = ((a.toNat : Int) - v.toNat - cin.toNat) % 256 :=
  ofInt_byte_toNat _

theorem add8_z (a v : Byte) (cin : Bool) : (add8 a v cin).flags.z = decide ((a.toNat + v.toNat + cin.toNat) % 256 = 0) := by
  rw [← add8_value_toNat]
  exact decide_eq_zero_byte _

theorem sub8_z (a v : Byte) (cin : Bool) :
    (sub8 a v cin).flags.z = decide (((a.toNat : Int) - v.toNat - cin.toNat) % 256 = 0) := by
  rw [← sub8_value_toNat]
  exact (decide_eq_zero_byte _).trans (decide_eq_decide.mpr Int.natCast_eq_zero.symm)

/-- Settles O28: N, H and C are as the model computes them; the value and Z are those of the sum and the difference modulo 256. -/
theorem addSubHelpers : Obligations.AddSubHelpers := by
  intro a v cin
  exact ⟨⟨add8_value_toNat a v cin, add8_z a v cin, rfl, rfl, rfl⟩,
    ⟨sub8_value_toNat a v cin, sub8_z a v cin, rfl, rfl, rfl⟩⟩

theorem inc8_value_toNat (v : Byte) (f : Flags) : (inc8 v f).value.toNat = (v.toNat + 1) % 256 := BitVec.toNat_add v 1#8

theorem dec8_value_toNat (v : Byte) (f : Flags) : (dec8 v f).value.toNat = (v.toNat + 255) % 256 := BitVec.toNat_add v 255#8

theorem inc8_flags (v : Byte) (f : Flags) : (inc8 v f).flags =
    { z := decide ((v.toNat + 1) % 256 = 0), n := false, h := decide (v.toNat % 16 = 0x0F), c := f.c } := by
  rw [← inc8_value_toNat v f, ← decide_eq_zero_byte]
  rfl

theorem dec8_flags (v : Byte) (f : Flags) : (dec8 v f).flags =
    { z := decide ((v.toNat + 255) % 256 = 0), n := true, h := decide (v.toNat % 16 = 0x00), c := f.c } := by
  rw [← dec8_value_toNat v f, ← decide_eq_zero_byte]
  rfl

/-- A correction that DAA makes under a condition, in the naturals. -/
theorem toNat_ite_add (b : Prop) [Decidable b] (a k : Byte) :
    (if b then a + k else a).toNat = if b then (a.toNat + k.toNat) % 256 else a.toNat := by
  split <;> rfl

/-- `daa8` computes what the pseudocode of R279 does. -/
theorem daa8_value_toNat (a : Byte) (f : Flags) : (daa8 a f).value.toNat = (daaSpec a.toNat f.n f.h f.c).1 := by
  unfold daa8 daaSpec
  split
  · simp only [toNat_ite_add]
    rfl
  · simp only [toNat_ite_add]
    rfl

theorem daa8_flags (a : Byte) (f : Flags) : (daa8 a f).flags =
    { z := decide ((daaSpec a.toNat f.n f.h f.c).1 = 0), n := f.n, h := false, c := (daaSpec a.toNat f.n f.h f.c).2 } := by
  rw [← daa8_value_toNat, ← decide_eq_zero_byte]
  unfold daa8 daaSpec
  split <;> rfl

/-! ### The operations on A -/

/-- The three forms of an operation do what `alu8` computes: the operand is a register, the byte at HL, or the immediate. -/
theorem aluForms_of_alu8 {op : AluOp} {res : Byte → Byte → Flags → AluResult} (h : ∀ a v f, alu8 op a v f.c = res a v f) :
    AluForms op res := by
  refine ⟨fun r s => ?_, fun s => ?_, fun n s => ?_⟩
  · rw [← h]
    exact ⟨spells_of_encode (encode_alu op r), _, exec_alu op r s, aluWith_effect op (s.regs.get8 r) 1 4 s⟩
  · obtain ⟨ha, hf, hkept, -, hends⟩ := aluWith_effect op (s.readByte s.hl) 1 8 (s.afterRead s.hl)
    simp only [RegsKeptButF, afterRead_regs] at ha hf hkept hends
    rw [← h]
    exact ⟨spells_of_encode (encode_aluAtHl op), _, exec_aluAtHl op s, ha, hf, hkept,
      (finish_mapRegs_world _ _ 1 8).readEffect (afterRead_effect s s.hl), hends⟩
  · rw [← h]
    exact ⟨spells_of_encode (encode_aluImm op n), _, exec_aluImm op n s, aluWith_effect op n 2 8 s⟩

/-- Settles O29: `alu8` is `add8` or `sub8`, with the old carry for ADC and SBC. -/
theorem addAndSubtract : Obligations.AddAndSubtract :=
  ⟨aluForms_of_alu8 fun _ _ _ => rfl, aluForms_of_alu8 fun _ _ _ => rfl, aluForms_of_alu8 fun _ _ _ => rfl,
    aluForms_of_alu8 fun _ _ _ => rfl⟩

/-- Settles O30: `alu8` is `logic8` of the bitwise result, and for CP it is A with the flags of `sub8`. -/
theorem logicAndCompare : Obligations.LogicAndCompare :=
  ⟨aluForms_of_alu8 fun _ _ _ => rfl, aluForms_of_alu8 fun _ _ _ => rfl, aluForms_of_alu8 fun _ _ _ => rfl,
    aluForms_of_alu8 fun _ _ _ => rfl⟩

/-! ### A result put into a register and F -/

/-- `R8[r] <- w.value; F <- w.flags` and the end of the instruction: what `incReg`, `decReg`, `daa` and `cpl` are. -/
def putResult (r : Reg8) (w : AluResult) (len n : Nat) (s : State) : State :=
  (s.mapRegs fun g => { g.set8 r w.value with f := w.flags }).finish len n

theorem putResult_effect (r : Reg8) (w : AluResult) (len n : Nat) (s : State) :
    (putResult r w len n s).regs.get8 r = w.value ∧ (putResult r w len n s).regs.f = w.flags ∧
      RegsKeptButF [r] s (putResult r w len n s) ∧ OnlyRegs s (putResult r w len n s) ∧
      Ends (putResult r w len n s) (s.regs.pc + BitVec.ofNat 16 len) n := by
  refine ⟨?_, rfl, regsKeptButF_set8 r w.value rfl, (finish_mapRegs_world s _ len n).onlyRegs,
    finish_ends (set8_pc s.regs r w.value) len n⟩
  calc (putResult r w len n s).regs.get8 r
    _ = (s.regs.set8 r w.value).get8 r := by cases r <;> rfl
    _ = w.value := get8_set8_self s.regs r w.value

theorem incReg_eq (r : Reg8) (s : State) : incReg r s = putResult r (inc8 (s.regs.get8 r) s.regs.f) 1 4 s := rfl

theorem decReg_eq (r : Reg8) (s : State) : decReg r s = putResult r (dec8 (s.regs.get8 r) s.regs.f) 1 4 s := rfl

theorem daa_eq (s : State) : daa s = putResult .a (daa8 s.regs.a s.regs.f) 1 4 s := rfl

theorem cpl_eq (s : State) :
    cpl s = putResult .a { value := s.regs.a ^^^ 0xFF#8, flags := { s.regs.f with n := true, h := true } } 1 4 s := rfl

/-- `putResult_effect` with the value as a number and the flags as a rule gives them. -/
theorem putResult_effect_of {w : AluResult} {v : Nat} {f : Flags} (hv : w.value.toNat = v) (hf : w.flags = f) (r : Reg8)
    (len n : Nat) (s : State) :
    ((putResult r w len n s).regs.get8 r).toNat = v ∧ (putResult r w len n s).regs.f = f ∧
      RegsKeptButF [r] s (putResult r w len n s) ∧ OnlyRegs s (putResult r w len n s) ∧
      Ends (putResult r w len n s) (s.regs.pc + BitVec.ofNat 16 len) n := by
  obtain ⟨hget, hflags, hrest⟩ := putResult_effect r w len n s
  exact ⟨hget ▸ hv, hflags.trans hf, hrest⟩

/-- `modifyHl_effect` with the value as a number and the flags as a rule gives them (R276, R278). -/
theorem modifyHl_effect_of {s : State} (hw : s.mem.wf = true) {u : Byte → Flags → AluResult} {v : Nat} {f : Flags}
    (hv : (u (s.readByte s.hl) s.regs.f).value.toNat = v % 256) (hf : (u (s.readByte s.hl) s.regs.f).flags = f) (len n : Nat) :
    ModifyEffect s (modifyHl u len n s) (BitVec.ofNat 8 v) ∧ (modifyHl u len n s).regs.f = f ∧
      RegsKeptButF [] s (modifyHl u len n s) ∧ Ends (modifyHl u len n s) (s.regs.pc + BitVec.ofNat 16 len) n := by
  have hval : (u (s.readByte s.hl) s.regs.f).value = BitVec.ofNat 8 v :=
    BitVec.eq_of_toNat_eq (hv.trans (BitVec.toNat_ofNat v 8).symm)
  rw [← hval, ← hf]
  exact modifyHl_effect hw u len n

/-- Settles O31: the register forms put the result of `inc8` or `dec8` into the register, the `(HL)` forms are `modifyHl` of it. -/
theorem incrementDecrement : Obligations.IncrementDecrement := by
  intro s
  refine ⟨fun r => ⟨⟨spells_of_encode (encode_inc r), incReg r s, exec_inc r s, ?_⟩,
    ⟨spells_of_encode (encode_dec r), decReg r s, exec_dec r s, ?_⟩⟩,
    fun hw => ⟨⟨spells_of_encode rfl, _, rfl, ?_⟩, ⟨spells_of_encode rfl, _, rfl, ?_⟩⟩⟩
  · exact incReg_eq r s ▸ putResult_effect_of (inc8_value_toNat _ _) (inc8_flags _ _) r 1 4 s
  · exact decReg_eq r s ▸ putResult_effect_of (dec8_value_toNat _ _) (dec8_flags _ _) r 1 4 s
  · exact modifyHl_effect_of hw (inc8_value_toNat _ _) (inc8_flags _ _) 1 12
  · exact modifyHl_effect_of hw (dec8_value_toNat _ _) (dec8_flags _ _) 1 12

/-- Settles O32: the form puts the result of `daa8`, which is that of `daaSpec`, into A and F. -/
theorem decimalAdjust : Obligations.DecimalAdjust :=
  fun s => ⟨spells_of_encode rfl, daa s, rfl,
    daa_eq s ▸ putResult_effect_of (daa8_value_toNat _ _) (daa8_flags _ _) .a 1 4 s⟩

/-! ### Flags alone -/

theorem finish_setFlags_effect (s : State) (f : Flags) (len n : Nat) :
    ((s.setFlags f).finish len n).regs.f = f ∧ RegsKeptButF [] s ((s.setFlags f).finish len n) ∧
      OnlyRegs s ((s.setFlags f).finish len n) ∧ Ends ((s.setFlags f).finish len n) (s.regs.pc + BitVec.ofNat 16 len) n :=
  ⟨rfl, regsKeptButF_nil rfl, (finish_mapRegs_world s (fun g => { g with f := f }) len n).onlyRegs, finish_ends rfl len n⟩

/-- Settles O34: CPL puts its result into A and F, SCF and CCF set flags alone. -/
theorem flagOperations : Obligations.FlagOperations := by
  intro s
  refine ⟨⟨spells_of_encode rfl, cpl s, rfl, ?_⟩, ⟨spells_of_encode rfl, scf s, rfl, finish_setFlags_effect s _ 1 4⟩,
    spells_of_encode rfl, ccf s, rfl, finish_setFlags_effect s _ 1 4⟩
  rw [cpl_eq]
  exact putResult_effect .a _ 1 4 s

/-! ### Decimal arithmetic -/

/-- An operation with the register form, then DAA: what DAA computes from the operation's result and flags is the decimal result. -/
theorem thenDaa_of_daaSpec {op : AluOp} {r : Reg8} {s : State} {n : Nat} {c : Bool} {w : AluResult} (hn : n < 100)
    (hw : alu8 op s.regs.a (s.regs.get8 r) s.regs.f.c = w)
    (h : daaSpec w.value.toNat w.flags.n w.flags.h w.flags.c = (bcd n, c)) : ThenDaa (Form.alu op r) s n c := by
  obtain ⟨ha, hf, -⟩ := aluWith_effect op (s.regs.get8 r) 1 4 s
  rw [hw] at ha hf
  obtain ⟨-, u, hexec, hval, hflags, -⟩ := decimalAdjust (aluReg op r s)
  rw [aluReg, ha, hf, h] at hval hflags
  obtain ⟨hpacked, hdecimal⟩ := packed_of_toNat hn hval
  exact ⟨_, u, exec_alu op r s, hexec, hpacked, hdecimal, by rw [hflags]⟩

theorem daaSpec_add8 {a v : Byte} (ha : Packed a) (hv : Packed v) (cin : Bool) : let w := add8 a v cin
    daaSpec w.value.toNat w.flags.n w.flags.h w.flags.c =
      (bcd ((decimal a + decimal v + cin.toNat) % 100), decide (decimal a + decimal v + cin.toNat ≥ 100)) := by
  have h := daaSpec_add (decimal_lt ha) (decimal_lt hv) cin.toNat_lt
  rw [← toNat_eq_bcd ha, ← toNat_eq_bcd hv, ← add8_value_toNat] at h
  exact h

theorem daaSpec_sub8 {a v : Byte} (ha : Packed a) (hv : Packed v) (cin : Bool) : let w := sub8 a v cin
    daaSpec w.value.toNat w.flags.n w.flags.h w.flags.c =
      (bcd ((decimal a + 100 - decimal v - cin.toNat) % 100), decide (decimal a < decimal v + cin.toNat)) := by
  have hd := sub8_value_toNat a v cin
  rw [toNat_eq_bcd ha, toNat_eq_bcd hv] at hd
  have h := daaSpec_sub (decimal_lt ha) (decimal_lt hv) cin.toNat_lt hd
  rw [← toNat_eq_bcd ha, ← toNat_eq_bcd hv] at h
  exact h

/-- Settles O33: DAA corrects the binary sum or difference of `add8` or `sub8`, with carry 0 for ADD and SUB. -/
theorem decimalArithmetic : Obligations.DecimalArithmetic := by
  intro r s ha hr x y k
  have hmod (n : Nat) : n % 100 < 100 := Nat.mod_lt n (by decide)
  exact ⟨thenDaa_of_daaSpec (hmod _) rfl (daaSpec_add8 ha hr false), thenDaa_of_daaSpec (hmod _) rfl (daaSpec_add8 ha hr s.regs.f.c),
    thenDaa_of_daaSpec (hmod _) rfl (daaSpec_sub8 ha hr false), thenDaa_of_daaSpec (hmod _) rfl (daaSpec_sub8 ha hr s.regs.f.c)⟩

end Sys2Proof.Machine
end

section
/-! 16-bit arithmetic (43_alu16.md): what ADD HL,rr, INC rr and DEC rr do. ADD SP,e8 stands with the 16-bit loads. -/

namespace Sys2Proof

/-! ### The bytes of a form -/

theorem encode_addHl (p : Pair) : encode (Form.addHl p) = [opXP 0 p.code 9] := by cases p <;> rfl

theorem encode_incPair (p : Pair) : encode (Form.incPair p) = [opXP 0 p.code 3] := by cases p <;> rfl

theorem encode_decPair (p : Pair) : encode (Form.decPair p) = [opXP 0 p.code 11] := by cases p <;> rfl

end Sys2Proof

namespace Sys2Proof.Machine

/-! ### The meaning of a form -/

theorem exec_addHl (p : Pair) (s : State) : exec (Form.addHl p) s = .next (addHl p s) := by cases p <;> rfl

theorem exec_incPair (p : Pair) (s : State) : exec (Form.incPair p) s = .next (stepPair p 1#16 s) := by cases p <;> rfl

/-- DEC adds 0xFFFF, the step down modulo 65536 (R302). -/
theorem exec_decPair (p : Pair) (s : State) : exec (Form.decPair p) s = .next (stepPair p 0xFFFF#16 s) := by cases p <;> rfl

/-! ### A pair added to HL -/

/-- `HL <- HL + R16[p]`, the flags of the sum, and the end of the instruction (R300). Both operands are read before HL is written, so
HL may itself be the pair. -/
theorem addHl_effect (p : Pair) (s : State) :
    (addHl p s).hl.toNat = (s.hl.toNat + (s.regs.getPair p).toNat) % 65536 ∧
      (addHl p s).regs.f = (add16 s.hl (s.regs.getPair p) s.regs.f).2 ∧ RegsKeptButF [.h, .l] s (addHl p s) ∧
      OnlyRegs s (addHl p s) ∧ Ends (addHl p s) (s.regs.pc + 1#16) 8 := by
  have hhl : (addHl p s).hl = s.hl + s.regs.getPair p := getPair_setPair_self s.regs .hl _
  refine ⟨?_, rfl, regsKeptButF_hl (s.hl + s.regs.getPair p) rfl, (finish_mapRegs_world s _ 1 8).onlyRegs, finish_ends rfl 1 8⟩
  rw [hhl, BitVec.toNat_add]

/-! ### A pair stepped -/

/-- `R16[p] <- R16[p] + d` modulo 65536 and the end of the instruction; F is kept (R301, R302). -/
theorem stepPair_effect (p : Pair) (d : Word) (s : State) :
    ((stepPair p d s).regs.getPair p).toNat = ((s.regs.getPair p).toNat + d.toNat) % 65536 ∧
      RegsKeptButSp p.halves s (stepPair p d s) ∧ (p ≠ .sp → (stepPair p d s).regs.sp = s.regs.sp) ∧
      OnlyRegs s (stepPair p d s) ∧ Ends (stepPair p d s) (s.regs.pc + 1#16) 8 := by
  obtain ⟨hkept, hsp⟩ := regsKeptButSp_setPair (s := s) (t := stepPair p d s) p (s.regs.getPair p + d) rfl
  refine ⟨?_, hkept, hsp, (finish_mapRegs_world s _ 1 8).onlyRegs, finish_ends (setPair_pc s.regs p _) 1 8⟩
  have hget : (stepPair p d s).regs.getPair p = s.regs.getPair p + d :=
    (getPair_finish _ 1 8 p).trans (getPair_setPair_self s.regs p _)
  rw [hget, BitVec.toNat_add]

/-- Settles O35: ADD HL,rr is `addHl`, and INC and DEC are `stepPair` by 1 and by 0xFFFF. -/
theorem pairArithmetic : Obligations.PairArithmetic := by
  intro p s
  exact ⟨⟨spells_of_encode (encode_addHl p), _, exec_addHl p s, addHl_effect p s⟩,
    ⟨spells_of_encode (encode_incPair p), _, exec_incPair p s, stepPair_effect p 1#16 s⟩,
    spells_of_encode (encode_decPair p), _, exec_decPair p s, stepPair_effect p 0xFFFF#16 s⟩

end Sys2Proof.Machine
end

section
/-! Rotates and shifts (44_rotate_shift.md): the rotates of A and the prefixed shifts of a register and of the byte at HL. -/

namespace Sys2Proof

/-! ### The bytes of a form -/

theorem encode_rot_reg (op : RotOp) (r : Reg8) : encode (Form.rot op (.reg r)) = [0xCB#8, opXYZ 0 op.code r.code] := by
  cases op <;> cases r <;> rfl

theorem encode_rot_atHl (op : RotOp) : encode (Form.rot op .atHl) = [0xCB#8, opXYZ 0 op.code 6] := by cases op <;> rfl

end Sys2Proof

namespace Sys2Proof.Machine

/-! ### The meaning of a form -/

theorem exec_rot_reg (op : RotOp) (r : Reg8) (s : State) :
    exec (Form.rot op (.reg r)) s = .next (changeReg (shift8 op) r s) := by
  cases op <;> cases r <;> rfl

theorem exec_rot_atHl (op : RotOp) (s : State) : exec (Form.rot op .atHl) s = .next (modifyHl (shift8 op) 2 16 s) := by
  cases op <;> rfl

/-! ### The outer bits of a byte -/

theorem getLsbD_zero_toNat (v : Byte) : (v.getLsbD 0).toNat = v.toNat % 2 := by
  rw [BitVec.getLsbD, Nat.toNat_testBit, pow_zero, Nat.div_one]

theorem getLsbD_seven_toNat (v : Byte) : (v.getLsbD 7).toNat = v.toNat / 128 := by
  have := v.isLt
  rw [BitVec.getLsbD, Nat.toNat_testBit]
  omega

theorem lowBit_toNat (b : Bool) : (lowBit b).toNat = b.toNat := by cases b <;> rfl

theorem highBit_toNat (b : Bool) : (highBit b).toNat = b.toNat * 0x80 := by cases b <;> rfl

theorem eq_decide_toNat (b : Bool) : b = decide (b.toNat = 1) := by cases b <;> rfl

/-! ### What the shifts compute -/

theorem shiftLeft_one_toNat (v : Byte) : (v <<< 1).toNat = v.toNat * 2 % 256 := by
  rw [BitVec.toNat_shiftLeft, Nat.shiftLeft_eq, pow_one]

theorem shiftRight_one_toNat (v : Byte) : (v >>> 1).toNat = v.toNat / 2 := by
  rw [BitVec.toNat_ushiftRight, Nat.shiftRight_eq_div_pow, pow_one]

/-- The low half of a byte moved up (R327). -/
theorem shiftLeft_four_toNat (v : Byte) : (v <<< 4).toNat = (v.toNat &&& 0x0F) * 16 := by
  rw [BitVec.toNat_shiftLeft, Nat.shiftLeft_eq, show (0x0F : Nat) = 2 ^ 4 - 1 from rfl, Nat.and_two_pow_sub_one_eq_mod]
  omega

/-- The high half of a byte moved down (R327). -/
theorem shiftRight_four_toNat (v : Byte) : (v >>> 4).toNat = v.toNat / 16 := by
  rw [BitVec.toNat_ushiftRight, Nat.shiftRight_eq_div_pow]

/-- `rotate8` computes the result of the pseudocode of R310 to R329. -/
theorem rotate8_value_toNat (op : RotOp) (v : Byte) (c : Bool) :
    (rotate8 op v c).1.toNat = (shiftSpec op v.toNat c.toNat).1 := by
  cases op with
  | rlc => rw [rotate8, shiftSpec, BitVec.toNat_or, shiftLeft_one_toNat, lowBit_toNat, getLsbD_seven_toNat]
  | rrc => rw [rotate8, shiftSpec, BitVec.toNat_or, shiftRight_one_toNat, highBit_toNat, getLsbD_zero_toNat]
  | rl => rw [rotate8, shiftSpec, BitVec.toNat_or, shiftLeft_one_toNat, lowBit_toNat]
  | rr => rw [rotate8, shiftSpec, BitVec.toNat_or, shiftRight_one_toNat, highBit_toNat]
  | sla => exact shiftLeft_one_toNat v
  | sra => rw [rotate8, shiftSpec, BitVec.toNat_or, shiftRight_one_toNat, BitVec.toNat_and]; rfl
  | swap => rw [rotate8, shiftSpec, BitVec.toNat_or, shiftLeft_four_toNat, shiftRight_four_toNat]
  | srl => exact shiftRight_one_toNat v

/-- The carry-out is the bit shifted out: bit 7 to the left, bit 0 to the right, and none for SWAP. -/
theorem rotate8_carry_toNat (op : RotOp) (v : Byte) (c : Bool) :
    (rotate8 op v c).2.toNat = (shiftSpec op v.toNat c.toNat).2 := by
  cases op with
  | rlc | rl | sla => exact getLsbD_seven_toNat v
  | rrc | rr | sra | srl => exact getLsbD_zero_toNat v
  | swap => rfl

theorem rotate8_carry (op : RotOp) (v : Byte) (c : Bool) :
    (rotate8 op v c).2 = decide ((shiftSpec op v.toNat c.toNat).2 = 1) := by
  rw [← rotate8_carry_toNat]
  exact eq_decide_toNat _

theorem shiftSpec_lt (op : RotOp) (v : Byte) (c : Bool) : (shiftSpec op v.toNat c.toNat).1 < 256 :=
  rotate8_value_toNat op v c ▸ (rotate8 op v c).1.isLt

theorem shift8_flags (op : RotOp) (v : Byte) (f : Flags) : (shift8 op v f).flags =
    { z := decide ((shiftSpec op v.toNat f.c.toNat).1 = 0), n := false, h := false,
      c := decide ((shiftSpec op v.toNat f.c.toNat).2 = 1) } := by
  rw [← rotate8_value_toNat, ← rotate8_carry, ← decide_eq_zero_byte]
  rfl

/-- Z is 0 whatever the result (R310 to R313). -/
theorem shiftA_flags (op : RotOp) (v : Byte) (f : Flags) : (shiftA op v f).flags =
    { z := false, n := false, h := false, c := decide ((shiftSpec op v.toNat f.c.toNat).2 = 1) } := by
  rw [← rotate8_carry]
  rfl

/-! ### A shifted operand put back -/

theorem rotateA_eq (op : RotOp) (s : State) : rotateA op s = putResult .a (shiftA op s.regs.a s.regs.f) 1 4 s := rfl

theorem changeReg_eq (u : Byte → Flags → AluResult) (r : Reg8) (s : State) :
    changeReg u r s = putResult r (u (s.regs.get8 r) s.regs.f) 2 8 s := rfl

/-- The accumulator rotates, whatever the operation (R310 to R313). -/
theorem rotateA_effect (op : RotOp) (s : State) :
    (rotateA op s).regs.a.toNat = (shiftSpec op s.regs.a.toNat s.regs.f.c.toNat).1 ∧
      (rotateA op s).regs.f =
        { z := false, n := false, h := false, c := decide ((shiftSpec op s.regs.a.toNat s.regs.f.c.toNat).2 = 1) } ∧
      RegsKeptButF [.a] s (rotateA op s) ∧ OnlyRegs s (rotateA op s) ∧ Ends (rotateA op s) (s.regs.pc + 1#16) 4 :=
  rotateA_eq op s ▸ putResult_effect_of (rotate8_value_toNat _ _ _) (shiftA_flags _ _ _) .a 1 4 s

/-- Settles O36: each of the four forms is `rotateA` of its operation. -/
theorem accumulatorRotates : Obligations.AccumulatorRotates := by
  intro s
  simp only [List.forall_mem_cons]
  exact ⟨⟨spells_of_encode rfl, _, rfl, rotateA_effect .rlc s⟩, ⟨spells_of_encode rfl, _, rfl, rotateA_effect .rrc s⟩,
    ⟨spells_of_encode rfl, _, rfl, rotateA_effect .rl s⟩, ⟨spells_of_encode rfl, _, rfl, rotateA_effect .rr s⟩,
    List.forall_mem_nil _⟩

/-- Settles O37: the form puts the result of `shift8`, which is that of `shiftSpec`, into the register and F. -/
theorem shiftRegister : Obligations.ShiftRegister := by
  intro op r s
  refine ⟨spells_of_encode (encode_rot_reg op r), _, exec_rot_reg op r s, ?_⟩
  exact changeReg_eq (shift8 op) r s ▸ putResult_effect_of (rotate8_value_toNat _ _ _) (shift8_flags _ _ _) r 2 8 s

/-- Settles O38: the form is `modifyHl` of `shift8`, whose result is that of `shiftSpec`. -/
theorem shiftAtHl : Obligations.ShiftAtHl := by
  intro op s hw
  refine ⟨spells_of_encode (encode_rot_atHl op), _, exec_rot_atHl op s, modifyHl_effect_of hw ?_ (shift8_flags _ _ _) 2 16⟩
  rw [Nat.mod_eq_of_lt (shiftSpec_lt op _ _)]
  exact rotate8_value_toNat op _ _

end Sys2Proof.Machine
end

section
/-! Bit operations (45_bit.md): what BIT, RES and SET do to a register and to the byte at HL. -/

namespace Sys2Proof

/-! ### The bytes of a form -/

/-- A bit number is one of 0 to 7. Table E2 of 30_encoding.md has a row of its own for each, so the forms are told apart by it. -/
theorem bitIndex_cases {motive : BitVec 3 → Prop} (zero : motive 0#3) (one : motive 1#3) (two : motive 2#3) (three : motive 3#3)
    (four : motive 4#3) (five : motive 5#3) (six : motive 6#3) (seven : motive 7#3) (b : BitVec 3) : motive b := by
  have hb : b = 0#3 ∨ b = 1#3 ∨ b = 2#3 ∨ b = 3#3 ∨ b = 4#3 ∨ b = 5#3 ∨ b = 6#3 ∨ b = 7#3 := by
    revert b
    decide
  rcases hb with rfl | rfl | rfl | rfl | rfl | rfl | rfl | rfl <;> assumption

theorem encode_bit (b : BitVec 3) (y : Operand8) : encode (Form.bit b y) = [0xCB#8, opXYZ 1 b y.code] := by
  cases y with
  | reg r => cases b using bitIndex_cases <;> cases r <;> rfl
  | atHl => cases b using bitIndex_cases <;> rfl

theorem encode_res (b : BitVec 3) (y : Operand8) : encode (Form.res b y) = [0xCB#8, opXYZ 2 b y.code] := by
  cases y with
  | reg r => cases b using bitIndex_cases <;> cases r <;> rfl
  | atHl => cases b using bitIndex_cases <;> rfl

theorem encode_set (b : BitVec 3) (y : Operand8) : encode (Form.set b y) = [0xCB#8, opXYZ 3 b y.code] := by
  cases y with
  | reg r => cases b using bitIndex_cases <;> cases r <;> rfl
  | atHl => cases b using bitIndex_cases <;> rfl

end Sys2Proof

namespace Sys2Proof.Machine

/-! ### The meaning of a form -/

theorem exec_bit_reg (b : BitVec 3) (r : Reg8) (s : State) : exec (Form.bit b (.reg r)) s = .next (bitReg b r s) := by
  cases b using bitIndex_cases <;> cases r <;> rfl

theorem exec_bit_atHl (b : BitVec 3) (s : State) : exec (Form.bit b .atHl) s = .next (bitHl b s) := by
  cases b using bitIndex_cases <;> rfl

theorem exec_res_reg (b : BitVec 3) (r : Reg8) (s : State) :
    exec (Form.res b (.reg r)) s = .next (changeReg (resBit b) r s) := by
  cases b using bitIndex_cases <;> cases r <;> rfl

theorem exec_res_atHl (b : BitVec 3) (s : State) : exec (Form.res b .atHl) s = .next (modifyHl (resBit b) 2 16 s) := by
  cases b using bitIndex_cases <;> rfl

theorem exec_set_reg (b : BitVec 3) (r : Reg8) (s : State) :
    exec (Form.set b (.reg r)) s = .next (changeReg (setBit b) r s) := by
  cases b using bitIndex_cases <;> cases r <;> rfl

theorem exec_set_atHl (b : BitVec 3) (s : State) : exec (Form.set b .atHl) s = .next (modifyHl (setBit b) 2 16 s) := by
  cases b using bitIndex_cases <;> rfl

/-! ### A bit tested -/

/-- Z is the complement of the bit (R340). -/
theorem bitFlags_eq (b : BitVec 3) (v : Byte) (f : Flags) :
    bitFlags b v f = { z := decide (v.getLsbD b.toNat = false), n := false, h := true, c := f.c } := by
  rw [bitFlags, Bool.decide_eq_false]

/-- The test of a register writes the flags alone (R340). -/
theorem bitReg_effect (b : BitVec 3) (r : Reg8) (s : State) :
    (bitReg b r s).regs.f = bitFlags b (s.regs.get8 r) s.regs.f ∧ RegsKeptButF [] s (bitReg b r s) ∧
      OnlyRegs s (bitReg b r s) ∧ Ends (bitReg b r s) (s.regs.pc + 2#16) 8 :=
  finish_setFlags_effect s _ 2 8

theorem finish_setFlags_world (s : State) (f : Flags) (len n : Nat) : SameWorld s ((s.setFlags f).finish len n) :=
  ⟨rfl, rfl, rfl, rfl, rfl, rfl, rfl, rfl⟩

/-- The test of the byte at HL is one read and writes the flags alone (R341). -/
theorem bitHl_effect (b : BitVec 3) (s : State) :
    (bitHl b s).regs.f = bitFlags b (s.readByte s.hl) s.regs.f ∧ RegsKeptButF [] s (bitHl b s) ∧
      ReadEffect s (bitHl b s) s.hl ∧ Ends (bitHl b s) (s.regs.pc + 2#16) 12 := by
  obtain ⟨hf, hkept, -, hends⟩ :=
    finish_setFlags_effect (s.afterRead s.hl) (bitFlags b (s.readByte s.hl) s.regs.f) 2 12
  simp only [RegsKeptButF, afterRead_regs] at hkept hends
  exact ⟨hf, hkept, (finish_setFlags_world _ _ 2 12).readEffect (afterRead_effect s s.hl), hends⟩

/-- Settles O39: the forms are `bitReg` and `bitHl`, and each sets F to `bitFlags` of its operand. -/
theorem bitTest : Obligations.BitTest := by
  intro b s
  refine ⟨fun r => ⟨spells_of_encode (encode_bit b (.reg r)), _, exec_bit_reg b r s, ?_⟩,
    spells_of_encode (encode_bit b .atHl), _, exec_bit_atHl b s, ?_⟩
  · exact bitFlags_eq b _ _ ▸ bitReg_effect b r s
  · exact bitFlags_eq b _ _ ▸ bitHl_effect b s

/-! ### A bit cleared or set -/

theorem bitMask_toNat (b : BitVec 3) : (bitMask b).toNat = 2 ^ b.toNat := by
  cases b using bitIndex_cases <;> rfl

theorem resBit_value_toNat (b : BitVec 3) (v : Byte) (f : Flags) :
    (resBit b v f).value.toNat = v.toNat &&& (0xFF ^^^ 2 ^ b.toNat) := by
  rw [resBit, BitVec.toNat_and, BitVec.toNat_xor, bitMask_toNat]
  rfl

theorem setBit_value_toNat (b : BitVec 3) (v : Byte) (f : Flags) :
    (setBit b v f).value.toNat = v.toNat ||| 2 ^ b.toNat := by
  rw [setBit, BitVec.toNat_or, bitMask_toNat]

theorem RegsKeptButF.regsKept {l : List Reg8} {s t : State} (h : RegsKeptButF l s t) (hf : t.regs.f = s.regs.f) :
    RegsKept l s t := by
  obtain ⟨hget, hsp⟩ := h
  exact ⟨hget, hf, hsp⟩

/-- `changeReg` of an operation that gives F back as it was (R342, R344). -/
theorem changeReg_effect_of_flags {u : Byte → Flags → AluResult} (hu : ∀ v f, (u v f).flags = f) {s : State} {r : Reg8} {n : Nat}
    (hv : (u (s.regs.get8 r) s.regs.f).value.toNat = n) :
    ((changeReg u r s).regs.get8 r).toNat = n ∧ RegsKept [r] s (changeReg u r s) ∧ OnlyRegs s (changeReg u r s) ∧
      Ends (changeReg u r s) (s.regs.pc + 2#16) 8 := by
  obtain ⟨hget, hf, hkept, hworld, hends⟩ := changeReg_effect u r s
  exact ⟨hget ▸ hv, hkept.regsKept (hf.trans (hu _ _)), hworld, hends⟩

/-- `modifyHl` of an operation that gives F back as it was (R343, R345). -/
theorem modifyHl_effect_of_flags {u : Byte → Flags → AluResult} (hu : ∀ v f, (u v f).flags = f) {s : State}
    (hw : s.mem.wf = true) {n : Nat} (hv : (u (s.readByte s.hl) s.regs.f).value.toNat = n) :
    ModifyEffect s (modifyHl u 2 16 s) (BitVec.ofNat 8 n) ∧ RegsKept [] s (modifyHl u 2 16 s) ∧
      Ends (modifyHl u 2 16 s) (s.regs.pc + 2#16) 16 := by
  obtain ⟨hmod, hf, hkept, hends⟩ := modifyHl_effect hw u 2 16
  rw [← hv, BitVec.ofNat_toNat, BitVec.setWidth_eq]
  exact ⟨hmod, hkept.regsKept (hf.trans (hu _ _)), hends⟩

/-- Settles O40: the forms are `changeReg` and `modifyHl` of `resBit` and `setBit`, which give F back as it was. -/
theorem bitResetAndSet : Obligations.BitResetAndSet := by
  intro b s
  have hres (v : Byte) (f : Flags) : (resBit b v f).flags = f := rfl
  have hset (v : Byte) (f : Flags) : (setBit b v f).flags = f := rfl
  refine ⟨fun r => ⟨⟨spells_of_encode (encode_res b (.reg r)), _, exec_res_reg b r s, ?_⟩,
    spells_of_encode (encode_set b (.reg r)), _, exec_set_reg b r s, ?_⟩,
    fun hw => ⟨⟨spells_of_encode (encode_res b .atHl), _, exec_res_atHl b s, ?_⟩,
      spells_of_encode (encode_set b .atHl), _, exec_set_atHl b s, ?_⟩⟩
  · exact changeReg_effect_of_flags hres (resBit_value_toNat b _ _)
  · exact changeReg_effect_of_flags hset (setBit_value_toNat b _ _)
  · exact modifyHl_effect_of_flags hres hw (resBit_value_toNat b _ _)
  · exact modifyHl_effect_of_flags hset hw (setBit_value_toNat b _ _)

end Sys2Proof.Machine
end

section
/-! Control transfers (46_control.md): what the jumps, calls, restarts and returns do, taken and not taken. -/

namespace Sys2Proof

/-! ### The bytes of a form -/

theorem encode_jpCond (cc : Cond) (n : Word) : encode (Form.jpCond cc n) = [opXYZ 3 (0#1 ++ cc.code) 2, lo n, hi n] := by
  cases cc <;> rfl

theorem encode_jrCond (cc : Cond) (e : Byte) : encode (Form.jrCond cc e) = [opXYZ 0 (1#1 ++ cc.code) 0, e] := by cases cc <;> rfl

theorem encode_callCond (cc : Cond) (n : Word) : encode (Form.callCond cc n) = [opXYZ 3 (0#1 ++ cc.code) 4, lo n, hi n] := by
  cases cc <;> rfl

theorem encode_retCond (cc : Cond) : encode (Form.retCond cc) = [opXYZ 3 (0#1 ++ cc.code) 0] := by cases cc <;> rfl

theorem encode_rst (y : BitVec 3) : encode (Form.rst y) = [opXYZ 3 y 7] := by cases y using bitIndex_cases <;> rfl

end Sys2Proof

namespace Sys2Proof.Machine

/-! ### The meaning of a form -/

theorem exec_jpCond (cc : Cond) (n : Word) (s : State) : exec (Form.jpCond cc n) s = .next (jpCond cc n s) := by cases cc <;> rfl

theorem exec_jrCond (cc : Cond) (e : Byte) (s : State) : exec (Form.jrCond cc e) s = .next (jrCond cc e s) := by cases cc <;> rfl

theorem exec_callCond (cc : Cond) (n : Word) (s : State) : exec (Form.callCond cc n) s = .next (callCond cc n s) := by
  cases cc <;> rfl

theorem exec_retCond (cc : Cond) (s : State) : exec (Form.retCond cc) s = .next (retCond cc s) := by cases cc <;> rfl

/-- The field `y` of the opcode times 8 is the target (R362). -/
theorem exec_rst (y : BitVec 3) (s : State) :
    exec (Form.rst y) s = .next (callTo (BitVec.ofNat 16 (8 * y.toNat)) 1 16 s) := by
  cases y using bitIndex_cases <;> rfl

/-! ### A jump -/

/-- A change of PC and the step's output changes nothing else; `finish` is a jump to the next instruction. -/
theorem jump_effect (s : State) (v : Word) (n : Nat) :
    RegsKept [] s (s.jump v n) ∧ OnlyRegs s (s.jump v n) ∧ Ends (s.jump v n) v n :=
  ⟨regsKept_nil rfl, (jump_world s v n).onlyRegs, jump_ends s v n⟩

/-- `JP cc,a16` (R352). -/
theorem jpCond_effect (cc : Cond) (v : Word) (s : State) :
    RegsKept [] s (jpCond cc v s) ∧ OnlyRegs s (jpCond cc v s) ∧
      if cc.test s.regs.f.z s.regs.f.c then Ends (jpCond cc v s) v 16 else Ends (jpCond cc v s) (s.regs.pc + 3#16) 12 := by
  rw [jpCond, holds_eq_test]
  cases cc.test s.regs.f.z s.regs.f.c with
  | true => exact jump_effect s v 16
  | false => exact jump_effect s (s.nextPc 3) 12

/-- `JR cc,e8` (R355). -/
theorem jrCond_effect (cc : Cond) (e : Byte) (s : State) :
    RegsKept [] s (jrCond cc e s) ∧ OnlyRegs s (jrCond cc e s) ∧
      if cc.test s.regs.f.z s.regs.f.c then Ends (jrCond cc e s) (s.relative e) 12
      else Ends (jrCond cc e s) (s.regs.pc + 2#16) 8 := by
  rw [jrCond, holds_eq_test]
  cases cc.test s.regs.f.z s.regs.f.c with
  | true => exact jump_effect s (s.relative e) 12
  | false => exact jump_effect s (s.nextPc 2) 8

/-- Settles O41: every form is `jump`, or one of two jumps by its condition; a relative target is `State.relative`. -/
theorem jumps : Obligations.Jumps := by
  intro s
  exact ⟨fun n => ⟨spells_of_encode rfl, _, rfl, jump_effect s n 16⟩,
    fun cc n => ⟨spells_of_encode (encode_jpCond cc n), _, exec_jpCond cc n s, jpCond_effect cc n s⟩,
    ⟨spells_of_encode rfl, _, rfl, jump_effect s s.hl 4⟩,
    fun e => ⟨spells_of_encode rfl, _, rfl, jump_effect s (s.relative e) 12⟩,
    fun cc e => ⟨spells_of_encode (encode_jrCond cc e), _, exec_jrCond cc e s, jrCond_effect cc e s⟩⟩

/-! ### A call -/

/-- `CALL cc,a16` (R357). -/
theorem callCond_effect {s : State} (hw : s.mem.wf = true) (cc : Cond) (v : Word) :
    if cc.test s.regs.f.z s.regs.f.c then PushEffect s (callCond cc v s) (s.regs.pc + 3#16) ∧ Ends (callCond cc v s) v 24
    else RegsKept [] s (callCond cc v s) ∧ OnlyRegs s (callCond cc v s) ∧ Ends (callCond cc v s) (s.regs.pc + 3#16) 12 := by
  rw [callCond, holds_eq_test]
  cases cc.test s.regs.f.z s.regs.f.c with
  | true => exact callTo_effect hw v 3 24
  | false => exact jump_effect s (s.nextPc 3) 12

/-- Settles O42: CALL and RST are `callTo`, and `CALL cc` is `callTo` or a jump to the next instruction. -/
theorem calls : Obligations.Calls := by
  intro s hw
  exact ⟨fun n => ⟨spells_of_encode rfl, _, rfl, callTo_effect hw n 3 24⟩,
    fun cc n => ⟨spells_of_encode (encode_callCond cc n), _, exec_callCond cc n s, callCond_effect hw cc n⟩,
    fun y => ⟨spells_of_encode (encode_rst y), _, exec_rst y s, callTo_effect hw _ 1 16⟩⟩

/-! ### A return -/

/-- `RET cc` (R359). -/
theorem retCond_effect (cc : Cond) (s : State) :
    if cc.test s.regs.f.z s.regs.f.c then
      PopEffect s (retCond cc s) ∧ RegsKeptButSp [] s (retCond cc s) ∧ Ends (retCond cc s) (popped s) 20
    else RegsKept [] s (retCond cc s) ∧ OnlyRegs s (retCond cc s) ∧ Ends (retCond cc s) (s.regs.pc + 1#16) 8 := by
  rw [retCond, holds_eq_test]
  cases cc.test s.regs.f.z s.regs.f.c with
  | true => exact returnTo_effect s 20
  | false => exact jump_effect s (s.nextPc 1) 8

theorem returnTo_ctl (n : Nat) (s : State) : (returnTo n s).ctl = s.ctl := afterPop_ctl s

/-- RETI is RET but for the control state, which a pop leaves as it is (R361). -/
theorem returnFromInterrupt_eq (s : State) :
    s.returnFromInterrupt = { returnTo 16 s with ctl := { s.ctl with ime := true, imeDelay := 0 } } := by
  rw [State.returnFromInterrupt, afterPop_ctl]
  rfl

theorem returnFromInterrupt_effect (s : State) :
    PopEffect s { s.returnFromInterrupt with ctl := s.ctl } ∧ RegsKeptButSp [] s s.returnFromInterrupt ∧
      s.returnFromInterrupt.ctl = { s.ctl with ime := true, imeDelay := 0 } ∧ Ends s.returnFromInterrupt (popped s) 16 := by
  obtain ⟨hpop, hkept, hends⟩ := returnTo_effect s 16
  have hctl : { s.returnFromInterrupt with ctl := s.ctl } = returnTo 16 s := by
    rw [returnFromInterrupt_eq, ← returnTo_ctl 16 s]
  rw [hctl, returnFromInterrupt_eq]
  exact ⟨hpop, hkept, rfl, hends⟩

/-- Settles O43: RET is `returnTo`, `RET cc` is `returnTo` or a jump to the next instruction, and RETI is RET with the control state
set. -/
theorem returns : Obligations.Returns := by
  intro s
  exact ⟨⟨spells_of_encode rfl, _, rfl, returnTo_effect s 16⟩,
    fun cc => ⟨spells_of_encode (encode_retCond cc), _, exec_retCond cc s, retCond_effect cc s⟩,
    spells_of_encode rfl, _, rfl, returnFromInterrupt_effect s⟩

end Sys2Proof.Machine
end

section
/-! Processor control (47_cpu_control.md): what NOP, HALT, DI and EI do, and the fatal stop of STOP and the illegal opcodes. -/

namespace Sys2Proof.Machine

/-! ### An instruction that changes control state alone -/

/-- An instruction of one byte and 4 cycles that leaves the control state `c` changes nothing else. -/
theorem finish_withCtl_effect (s : State) (c : Control) :
    RegsKept [] s (State.finish { s with ctl := c } 1 4) ∧
      OnlyRegs s { State.finish { s with ctl := c } 1 4 with ctl := s.ctl } ∧
      (State.finish { s with ctl := c } 1 4).ctl = c ∧ Ends (State.finish { s with ctl := c } 1 4) (s.regs.pc + 1#16) 4 :=
  ⟨regsKept_nil rfl, SameWorld.onlyRegs ⟨rfl, rfl, rfl, rfl, rfl, rfl, rfl, rfl⟩, rfl, finish_ends rfl 1 4⟩

/-! ### HALT -/

/-- The five requests, widened to a byte (60_exceptions.md R401). -/
theorem setWidth_enabledRequests (s : State) :
    BitVec.setWidth 8 s.enabledRequests = s.irq.ie &&& BitVec.setWidth 8 s.irq.flags &&& 0x1F#8 := by
  have hmask (v : Byte) : BitVec.setWidth 8 (v.extractLsb' 0 5) = v &&& 0x1F#8 := by revert v; decide
  rw [State.enabledRequests, BitVec.setWidth_and, hmask, BitVec.and_assoc, BitVec.and_comm 0x1F#8, ← BitVec.and_assoc]

theorem enabledRequests_eq_zero_iff (s : State) :
    s.enabledRequests = 0#5 ↔ s.irq.ie &&& BitVec.setWidth 8 s.irq.flags &&& 0x1F#8 = 0#8 := by
  rw [← setWidth_enabledRequests, ← BitVec.toNat_inj, ← BitVec.toNat_inj (x := BitVec.setWidth 8 _),
    BitVec.toNat_setWidth_of_le (by decide)]
  rfl

/-- HALT writes control state alone (R372). -/
theorem halt_eq (s : State) :
    halt s = State.finish { s with ctl :=
      if s.irq.ie &&& BitVec.setWidth 8 s.irq.flags &&& 0x1F#8 = 0#8 then { s.ctl with halted := true } else s.ctl } 1 4 := by
  simp only [halt, enabledRequests_eq_zero_iff]
  split <;> rfl

/-! ### EI -/

/-- The control state that EI leaves (R375). -/
def ctlAfterEi (d : EiDelay) (c : Control) : Control :=
  match d with
  | .zero => { c with ime := true }
  | .one => if c.ime = false ∧ c.imeDelay = 0 then { c with imeDelay := 2 } else c

/-- EI writes control state alone. -/
theorem enableInterrupts_eq (s : State) :
    enableInterrupts s = State.finish { s with ctl := ctlAfterEi s.params.eiDelay s.ctl } 1 4 := by
  unfold enableInterrupts ctlAfterEi
  cases s.params.eiDelay with
  | zero => rfl
  | one =>
    simp only [Bool.and_eq_true, Bool.not_eq_true', decide_eq_true_eq]
    split <;> rfl

theorem enableInterrupts_effect (s : State) :
    RegsKept [] s (enableInterrupts s) ∧ OnlyRegs s { enableInterrupts s with ctl := s.ctl } ∧
      (enableInterrupts s).ctl = ctlAfterEi s.params.eiDelay s.ctl ∧ Ends (enableInterrupts s) (s.regs.pc + 1#16) 4 :=
  enableInterrupts_eq s ▸ finish_withCtl_effect s _

/-- Settles O44: each of the four is `finish` in a state that differs at most in its control state. -/
theorem processorControl : Obligations.ProcessorControl := by
  intro s
  obtain ⟨hkept, hworld, hctl, hends⟩ := enableInterrupts_effect s
  exact ⟨⟨spells_of_encode rfl, _, rfl, jump_effect s (s.nextPc 1) 4⟩,
    ⟨spells_of_encode rfl, _, rfl, halt_eq s ▸ finish_withCtl_effect s _⟩,
    ⟨spells_of_encode rfl, _, rfl, finish_withCtl_effect s _⟩,
    ⟨spells_of_encode rfl, _, rfl, hkept, hworld, fun h => by rw [hctl, h]; rfl, fun h => by rw [hctl, h]; rfl, hends⟩,
    rfl⟩

/-! ### The fatal stop -/

/-- The fatal record is all that changes but the step's output (60_exceptions.md R420). -/
theorem raiseFatal_effect (s : State) (op : BitVec 16) :
    (s.raiseFatal op).ctl = { s.ctl with fatal := some { op := op, pc := s.regs.pc } } ∧
      OnlyRegs s { s.raiseFatal op with ctl := s.ctl } ∧ (s.raiseFatal op).regs = s.regs ∧ (s.raiseFatal op).out = none :=
  ⟨rfl, SameWorld.onlyRegs ⟨rfl, rfl, rfl, rfl, rfl, rfl, rfl, rfl⟩, rfl, rfl⟩

/-- The fatal instruction `i` is the row of the opcode `b` in Table E1, and its meaning is a fatal stop at `b`: STOP with the byte
after it unread (R371), an illegal opcode alone (R377). -/
structure FatalRow (b : Byte) (i : Instr) : Prop where
  entry   : entryE1 b = if i = .stop then .twoUnread i else .one i
  exec_eq : ∀ s, exec i s = .next (s.raiseFatal (cat 0#8 b))

theorem FatalRow.decode_eq {b : Byte} {i : Instr} (h : FatalRow b i) (n : Byte) (rest : List Byte) :
    decode (b :: n :: rest) = .ok (i, if i = .stop then rest else n :: rest) := by
  have he := h.entry
  split_ifs at he ⊢
  · exact decode_cons_iff.mpr ⟨[n], rfl, he ▸ .twoUnread i n⟩
  · exact decode_cons_iff.mpr ⟨[], rfl, he ▸ .one i⟩

/-- Settles O45: the twelve are rows of Table E1 whose meaning is `raiseFatal`. -/
theorem fatalInstructions : Obligations.FatalInstructions := by
  intro s x hx
  have hrow : FatalRow x.1 x.2 := by
    revert x
    simp only [List.forall_mem_cons]
    refine ⟨?_, ?_, ?_, ?_, ?_, ?_, ?_, ?_, ?_, ?_, ?_, ?_, List.forall_mem_nil _⟩
    all_goals exact ⟨rfl, fun _ => rfl⟩
  exact ⟨hrow.decode_eq, _, hrow.exec_eq s, raiseFatal_effect s _⟩

end Sys2Proof.Machine
end

section
/-! The kinds of step (60_exceptions.md R400): the halted wait, the dispatch, the run of a decoded instruction and the fatal stop, and
that a fatal record stays true. -/
namespace Sys2Proof.Machine

/-! ### The step of a live machine -/

theorem live_iff (s : State) : s.live = true ↔ s.ext.stopped = false ∧ s.ctl.fatal = none := by
  simp only [State.live, Bool.and_eq_true, Bool.not_eq_true', decide_eq_true_eq]

theorem step_of_live {s u : State} (h : s.live = true) (hm : machineStep s = .next u) : step s = .next u.frameYield := by
  obtain ⟨hs, hf⟩ := (live_iff s).mp h
  simp [step, facadeStep, hs, hf, hm]

theorem machineStep_of_waits {s : State} (h : s.waits = true) : machineStep s = .next (s.completeStep 4) := if_pos h

theorem machineStep_of_not_waits {s : State} (h : s.waits = false) :
    machineStep s = if s.wake.dispatchPending then .next (s.wake.dispatchInterrupt.completeStep 20) else s.wake.runInstruction :=
  if_neg (by simp [h])

/-! ### A fatal record is true -/

theorem implemented_of_leftOut {p : Params} {op : BitVec 16} (h : p.leftOut.contains op = true) : implemented p op = false := by
  simp only [implemented, h, Bool.not_true, Bool.and_false]

theorem implemented_of_never (p : Params) {op : BitVec 16} (h : op ∈ neverImplemented) : implemented p op = false := by
  unfold neverImplemented at h
  fin_cases h <;> rfl

theorem fatalOk_of_none {s : State} (h : s.ctl.fatal = none) : s.fatalOk := fun _ hr => nomatch h.symm.trans hr

theorem raiseFatal_fatalOk {s : State} {op : BitVec 16} (h : implemented s.params op = false) : (s.raiseFatal op).fatalOk := by
  intro r hr
  cases hr
  exact ⟨h, rfl⟩

theorem endOfInstruction_fatal (s : State) : s.endOfInstruction.ctl.fatal = s.ctl.fatal := by
  unfold State.endOfInstruction
  split <;> rfl

/-- An instruction makes a fatal record only where it is STOP or illegal, and its end makes none. -/
theorem retire_fatalOk {s t : State} (h : Runs s t) (hs : s.ctl.fatal = none) : t.retire.fatalOk := by
  cases runs_ctl h with
  | same hc o | halt hc o | mask hc o | unmask hc o | enable hc o | delay hc _ o =>
    exact fatalOk_of_none (by rw [retire_ctl_of_out o, endOfInstruction_fatal, hc]; exact hs)
  | fatal op ho => exact raiseFatal_fatalOk (implemented_of_never _ ho)

theorem stepped_fatalOk {s u : State} (h : Stepped s u) (hs : s.ctl.fatal = none) : u.fatalOk := by
  cases h with
  | wait => exact fatalOk_of_none (by rw [completeStep_ctl]; exact hs)
  | dispatch => exact fatalOk_of_none (by rw [completeStep_ctl]; simpa [State.dispatchInterrupt] using hs)
  | leftOut v _ _ hv op ho => exact raiseFatal_fatalOk (implemented_of_leftOut (by rw [hv.params]; exact ho))
  | run v w _ _ hv hr => exact retire_fatalOk hr (by rw [hv.ctl]; exact hs)

theorem hostReset_fatalOk (s : State) : s.hostReset.fatalOk := fatalOk_of_none rfl

theorem frameYield_fatalOk {s : State} (h : s.fatalOk) : s.frameYield.fatalOk := by
  rcases frameYield_cases s with ⟨b, x, hy⟩ | ⟨q, -, hy⟩ <;> rw [hy]
  · exact h
  · exact hostReset_fatalOk _

/-- Settles O51: a step that goes on starts without a record, and of the four kinds only the fetch of an opcode that is left out and
the run of STOP or of an illegal opcode make one; a reset makes none. -/
theorem fatalRecordIsTrue : Obligations.FatalRecordIsTrue := by
  intro s t _ hstep
  rcases step_cases hstep with ⟨-, r, q, -, -, rfl⟩ | ⟨hlive, u, hu, rfl⟩
  · exact hostReset_fatalOk _
  · exact frameYield_fatalOk (stepped_fatalOk hu ((live_iff s).mp hlive).2)

/-- Settles O50: the two branches of `afterFatal`. -/
theorem fatalIsPermanent : Obligations.FatalIsPermanent := by
  intro s r hr hs
  have hstep : step s = afterFatal r s := by simp [step, facadeStep, hs, hr]
  rw [hstep]
  unfold afterFatal
  refine ⟨fun q hq => by rw [hq], fun hne => ?_⟩
  split
  · rename_i q hq
    exact absurd hq (hne q)
  · rfl

/-! ### The halted wait and the dispatch -/

/-- Settles O47: `dispatchInterrupt` is a push, whose whole effect `push16_effect` gives, and a jump. -/
theorem interruptDispatch : Obligations.InterruptDispatch := by
  intro s
  refine ⟨by simp only [State.dispatchPending, Bool.and_eq_true, and_assoc], fun hmem hlive hw hd => ?_⟩
  have hstep : machineStep s = .next (s.wake.dispatchInterrupt.completeStep 20) := by
    rw [machineStep_of_not_waits hw, if_pos (show s.wake.dispatchPending = true from hd)]
  exact ⟨s.wake.push16 s.regs.pc, s.wake.dispatchInterrupt, push16_effect (s := s.wake) hmem _, rfl,
    by simp [State.dispatchInterrupt], rfl, rfl, rfl, rfl, rfl, rfl, rfl, step_of_live hlive hstep⟩

theorem waits_iff (s : State) :
    s.waits = true ↔ s.ctl.halted = true ∧ s.irq.ie &&& BitVec.setWidth 8 s.irq.flags &&& 0x1F#8 = 0#8 := by
  rw [State.waits, Bool.and_eq_true, decide_eq_true_eq, enabledRequests_eq_zero_iff]

theorem wake_of_not_halted {s : State} (h : s.ctl.halted = false) : s.wake = s := by
  rw [State.wake, ← h]

/-- A step that does not wait is that of the machine already woken (R401). -/
theorem step_wake {s : State} (h : s.waits = false) : step s = step s.wake := by
  have hm : machineStep s = machineStep s.wake := by rw [machineStep_of_not_waits h, machineStep_of_not_waits rfl]; rfl
  simp only [step, facadeStep, hm, wake_ext, wake_ctl]
  cases s.ctl.fatal <;> rfl

/-- Settles O48: `waits` is R401's condition; a wait advances the PPU alone, and without one the wake changes nothing else. -/
theorem haltedWait : Obligations.HaltedWait := by
  intro s
  refine ⟨fun h => ⟨by simp [State.waits, h], wake_of_not_halted h⟩, fun hh hz => ?_, fun _ hnz => ?_⟩
  · have hw := (waits_iff s).mpr ⟨hh, hz⟩
    exact ⟨hw, fun hlive => ⟨step_of_live hlive (machineStep_of_waits hw), completeStep_regs s 4, completeStep_ctl s 4,
      completeStep_mem s 4, rfl⟩⟩
  · have hw : s.waits = false := Bool.eq_false_iff.mpr fun h => hnz ((waits_iff s).mp h).2
    exact ⟨hw, rfl, fun _ => step_wake hw⟩

end Sys2Proof.Machine
end

section
/-! The PPU's clock (60_exceptions.md R440 to R446): what one tick does, what an advance by several does, the end of an instruction,
and how far each step moves the PPU around its frame. -/
namespace Sys2Proof.Machine

/-! ### One tick -/

/-- Inside a line mode 3 begins, or mode 3 ends, or nothing happens (R443). -/
theorem lineEvents_cases (s : State) :
    (s.ppu.ly < 144 ∧ s.ppu.dot = 80 ∧ s.lineEvents = s.beginTransfer) ∨
      (s.ppu.ly < 144 ∧ s.ppu.dot ≠ 80 ∧ s.ppu.dot = 80 + s.ppu.mode3Len ∧ s.lineEvents = s.endTransfer) ∨
      (¬(s.ppu.ly < 144 ∧ s.ppu.dot = 80) ∧ ¬(s.ppu.ly < 144 ∧ s.ppu.dot ≠ 80 ∧ s.ppu.dot = 80 + s.ppu.mode3Len) ∧
        s.lineEvents = s) := by
  unfold State.lineEvents
  split_ifs with hly h80 hend
  · exact .inl ⟨hly, h80, rfl⟩
  · exact .inr (.inl ⟨hly, h80, hend, rfl⟩)
  · exact .inr (.inr ⟨fun h => h80 h.2, fun h => hend h.2.2, rfl⟩)
  · exact .inr (.inr ⟨fun h => hly h.1, fun h => hly h.1, rfl⟩)

/-- The length of mode 3 is latched where mode 3 begins. -/
theorem lineEvents_mode3Len (s : State) :
    s.lineEvents.ppu.mode3Len = if s.ppu.ly < 144 ∧ s.ppu.dot = 80 then s.mode3Length else s.ppu.mode3Len := by
  rcases lineEvents_cases s with ⟨hly, h80, he⟩ | ⟨-, h80, -, he⟩ | ⟨hbegin, -, he⟩ <;> rw [he]
  · rw [if_pos ⟨hly, h80⟩]; rfl
  · rw [if_neg fun h => h80 h.2]; rfl
  · rw [if_neg hbegin]

/-- A line is rendered where mode 3 ends. -/
theorem lineEvents_fb (s : State) :
    s.lineEvents.ppu.fb = if s.ppu.ly < 144 ∧ s.ppu.dot ≠ 80 ∧ s.ppu.dot = 80 + s.ppu.mode3Len then
      s.ppu.fb.set s.ppu.ly (s.lineShades s.ppu.ly) else s.ppu.fb := by
  rcases lineEvents_cases s with ⟨-, h80, he⟩ | ⟨hly, h80, hend, he⟩ | ⟨-, hend, he⟩ <;> rw [he]
  · rw [if_neg fun h => h.2.1 h80]; rfl
  · rw [if_pos ⟨hly, h80, hend⟩]; rfl
  · rw [if_neg hend]

theorem endLine_line (s : State) : s.endLine.1.ppu.mode3Len = s.ppu.mode3Len ∧ s.endLine.1.ppu.fb = s.ppu.fb := by
  unfold State.endLine
  simp only []
  split_ifs <;> exact ⟨rfl, rfl⟩

/-- The place after a tick, as a line and a dot. -/
theorem ppuTick_place {s : State} (hl : s.ppu.ly < 154) (hd : s.ppu.dot < 456) :
    (s.ppuTick.1.ppu.ly, s.ppuTick.1.ppu.dot) =
      if s.ppu.dot + 1 = 456 then ((s.ppu.ly + 1) % 154, 0) else (s.ppu.ly, s.ppu.dot + 1) := by
  obtain ⟨-, hd', hpos, -⟩ := ppuTick_position hl hd
  simp only [Ppu.position] at hpos
  split_ifs with hend <;> rw [Prod.mk.injEq] <;> omega

theorem ppuTick_mode3Len {s : State} (h3 : s.ppu.mode3Len ≤ 375) :
    s.ppuTick.1.ppu.mode3Len = if s.ppu.ly < 144 ∧ s.ppu.dot + 1 = 80 then
      State.mode3Length { s with ppu := { s.ppu with dot := s.ppu.dot + 1 } } else s.ppu.mode3Len := by
  by_cases hend : s.ppu.dot + 1 = 456
  · rw [ppuTick_end hend h3, (endLine_line _).1, if_neg (by omega)]
  · rw [ppuTick_mid hend]
    exact lineEvents_mode3Len _

theorem ppuTick_fb {s : State} (h3 : s.ppu.mode3Len ≤ 375) :
    s.ppuTick.1.ppu.fb = if s.ppu.ly < 144 ∧ s.ppu.dot + 1 ≠ 80 ∧ s.ppu.dot + 1 = 80 + s.ppu.mode3Len then
      s.ppu.fb.set s.ppu.ly (s.lineShades s.ppu.ly) else s.ppu.fb := by
  by_cases hend : s.ppu.dot + 1 = 456
  · rw [ppuTick_end hend h3, (endLine_line _).2, if_neg (by omega)]
  · rw [ppuTick_mid hend]
    exact lineEvents_fb _

theorem modeAt_number (ly dot m : Nat) :
    (modeAt ly dot m).number = if 144 ≤ ly then 1 else if dot < 80 then 2 else if dot < 80 + m then 3 else 0 := by
  unfold modeAt
  split_ifs <;> rfl

theorem ppuTick_entered {s : State} (hl : s.ppu.ly < 154) (hd : s.ppu.dot < 456) :
    s.ppuTick.2 = decide (s.ppu.ly = 143 ∧ s.ppu.dot = 455) := by
  obtain ⟨-, -, -, hiff⟩ := ppuTick_position hl hd
  rw [Bool.eq_iff_iff, hiff, decide_eq_true_iff, Ppu.position]
  omega

/-- The interrupt controller holds IE and IF alone. -/
theorem irq_of_ie {i j : Irq} (h : i.ie = j.ie) : i = { j with flags := i.flags } := h ▸ rfl

/-- Vertical blank entered sets bit 0 of IF and changes nothing else of the interrupt controller (R405, R444). -/
theorem ppuTick_irq (s : State) :
    s.ppuTick.1.irq = { s.irq with flags := if s.ppuTick.2 then s.irq.flags ||| 0b00001#5 else s.irq.flags } := by
  rw [← ppuTick_flags s]
  exact irq_of_ie (ppuTick_keeps s).ie

/-- Settles O54: the place, the mode from the consistency of the PPU after the tick (`ppuTick_wf`), the latch and the rendered line,
and the frame. -/
theorem ppuTick : Obligations.PpuTick := by
  intro s hq hwf m t
  obtain ⟨hly, hd, ⟨-, h3⟩, -, -⟩ := (ppu_wf_iff _).mp hwf
  obtain ⟨-, -, -, hmode, -⟩ := (ppu_wf_iff _).mp (ppuTick_wf hq hwf)
  have hk := ppuTick_keeps s
  have hirq := ppuTick_irq s
  simp only [ppuTick_entered hly hd, decide_eq_true_eq] at hirq
  exact ⟨ppuTick_place hly hd, (congrArg PpuMode.number hmode).trans (modeAt_number _ _ _), ppuTick_mode3Len h3, ppuTick_fb h3,
    ppuTick_entered hly hd, hirq, hk.regs, hk.ctl, hk.io, hk.mem, hk.buttons, hk.params, hk.out, hk.ext,
    fun n h => mode3Length_constant h, fun h => mode3Length_dependent h, fun x o => ppuTick_withWorld s x o⟩

/-! ### An advance -/

theorem advancePpu_eq_ticks (n : Nat) (s : State) : (advancePpu n s).1 = s.ticks n := by
  induction n generalizing s with
  | zero => rfl
  | succ n ih => rw [ticks_first, ← ih]; rfl

theorem advancePpu_succ_entered (n : Nat) (s : State) :
    (advancePpu (n + 1) s).2 = (s.ppuTick.2 || (advancePpu n s.ppuTick.1).2) := rfl

/-- An advance reports a completed frame where one of its ticks entered vertical blank (R440). -/
theorem advancePpu_entered_iff (n : Nat) (s : State) :
    (advancePpu n s).2 = true ↔ ∃ k, k < n ∧ (s.ticks k).ppuTick.2 = true := by
  induction n generalizing s with
  | zero => simp [advancePpu]
  | succ n ih =>
    rw [advancePpu_succ_entered, Bool.or_eq_true, ih, Nat.exists_lt_succ_left]
    simp only [ticks_first]
    rfl

theorem advancePpu_flags (n : Nat) (s : State) :
    (advancePpu n s).1.irq.flags = if (advancePpu n s).2 then s.irq.flags ||| 0b00001#5 else s.irq.flags := by
  induction n generalizing s with
  | zero => rfl
  | succ n ih =>
    have hstep : (advancePpu (n + 1) s).1 = (advancePpu n s.ppuTick.1).1 := rfl
    rw [hstep, advancePpu_succ_entered, ih, ppuTick_flags]
    cases s.ppuTick.2 <;> cases (advancePpu n s.ppuTick.1).2 <;> simp [BitVec.or_assoc]

theorem advancePpu_irq (n : Nat) (s : State) : (advancePpu n s).1.irq =
    { s.irq with flags := if (advancePpu n s).2 then s.irq.flags ||| 0b00001#5 else s.irq.flags } := by
  rw [← advancePpu_flags]
  exact irq_of_ie (advancePpu_keeps n s).ie

/-! ### The end of an instruction -/

/-- The control state after the end of an executed instruction (R402). -/
theorem endOfInstruction_eq (s : State) : s.endOfInstruction = { s with ctl :=
    if s.ctl.imeDelay > 0 then
      { s.ctl with imeDelay := s.ctl.imeDelay - 1, ime := if s.ctl.imeDelay = 1 then true else s.ctl.ime }
    else s.ctl } := by
  unfold State.endOfInstruction
  by_cases hpos : s.ctl.imeDelay > 0
  · simp only [if_pos hpos, show s.ctl.imeDelay - 1 = 0 ↔ s.ctl.imeDelay = 1 by omega]
  · simp only [if_neg hpos]

theorem retire_of_out {s : State} {o : StepOut} (h : s.out = some o) : s.retire = s.endOfInstruction.completeStep o.cycles := by
  simp only [State.retire, h]

/-- Settles O52: an executed instruction ends as `endOfInstruction_eq` says, and every step that returns cycles by an advance, whose
effect is that of its ticks. -/
theorem endOfInstruction : Obligations.EndOfInstruction := by
  intro s
  refine ⟨fun h => by simp only [State.retire, h], fun n => ?_, fun o ho => ?_⟩
  · have hk := advancePpu_keeps n s
    refine ⟨advancePpu_eq_ticks n s, advancePpu_entered_iff n s, ?_, hk.regs, hk.ctl, hk.io, hk.mem, hk.buttons, hk.params,
      advancePpu_irq n s, hk.ext⟩
    rw [← advancePpu_eq_ticks]
    rfl
  · intro c r t
    have ht : t = State.completeStep { s with ctl := c } o.cycles := by
      rw [← endOfInstruction_eq]
      exact retire_of_out ho
    have hk := advancePpu_keeps o.cycles { s with ctl := c }
    rw [ht]
    exact ⟨rfl, hk.ctl, rfl, hk.regs, hk.mem, hk.io, hk.buttons, hk.params, hk.ext, advancePpu_irq _ _, rfl⟩

/-! ### The frame's clock -/

theorem ticks_position {s : State} (hl : s.ppu.ly < 154) (hd : s.ppu.dot < 456) (n : Nat) :
    (s.ticks n).ppu.ly < 154 ∧ (s.ticks n).ppu.dot < 456 ∧ (s.ticks n).ppu.position = (s.ppu.position + n) % 70224 := by
  induction n with
  | zero => exact ⟨hl, hd, show s.ppu.position = (s.ppu.position + 0) % 70224 by simp only [Ppu.position]; omega⟩
  | succ n ih =>
    obtain ⟨hln, hdn, hn⟩ := ih
    obtain ⟨hl', hd', hpos, -⟩ := ppuTick_position hln hdn
    exact ⟨hl', hd', hpos.trans (by rw [hn]; omega)⟩

/-- Vertical blank is entered among the ticks of an advance where cycle 65664 of the frame is reached (R444, R446). -/
theorem advancePpu_entered_iff_position {s : State} (hl : s.ppu.ly < 154) (hd : s.ppu.dot < 456) (n : Nat) :
    (advancePpu n s).2 = true ↔ ∃ k, 1 ≤ k ∧ k ≤ n ∧ (s.ppu.position + k) % 70224 = 65664 := by
  have htick (k : Nat) : (s.ticks k).ppuTick.2 = true ↔ (s.ppu.position + (k + 1)) % 70224 = 65664 := by
    obtain ⟨hlk, hdk, hk⟩ := ticks_position hl hd k
    obtain ⟨-, -, -, hentered⟩ := ppuTick_position hlk hdk
    rw [hentered, hk]
    omega
  simp only [advancePpu_entered_iff, htick]
  constructor
  · rintro ⟨k, hk, h⟩
    exact ⟨k + 1, Nat.le_add_left 1 k, hk, h⟩
  · rintro ⟨k, h1, hk, h⟩
    exact ⟨k - 1, by omega, by rw [Nat.sub_add_cancel h1]; exact h⟩

theorem completeStep_out {s : State} {n : Nat} {o : StepOut} (h : (s.completeStep n).out = some o) :
    o = { cycles := n, frameComplete := (advancePpu n s).2 } := (Option.some.inj h).symm

/-- A step that returns cycles ends with an advance by them, from the place where it began. -/
theorem stepped_completeStep {s u : State} {o : StepOut} (h : Stepped s u) (ho : u.out = some o) :
    ∃ v : State, v.ppu = s.ppu ∧ u = v.completeStep o.cycles := by
  cases h with
  | wait => exact ⟨s, rfl, by rw [completeStep_out ho]⟩
  | dispatch => exact ⟨_, (Keeps.dispatch s.wake).ppu, by rw [completeStep_out ho]⟩
  | leftOut => cases ho
  | run v w _ _ hv hr =>
    have hppu : w.ppu = s.ppu := (runs_keeps hr).ppu.trans hv.ppu
    cases hw : w.out with
    | none => simp [State.retire, hw] at ho
    | some p =>
      rw [retire_of_out hw] at ho ⊢
      exact ⟨_, (endOfInstruction_keeps w).ppu.trans hppu, by rw [completeStep_out ho]⟩

/-- A step that returns cycles was not reset by the host, whose turn then left the PPU and the output alone. -/
theorem frameYield_of_out {s : State} {o : StepOut} (h : s.frameYield.out = some o) :
    s.out = some o ∧ s.frameYield.ppu = s.ppu := by
  rcases frameYield_cases s with ⟨b, x, hy⟩ | ⟨q, -, hy⟩ <;> rw [hy] at h ⊢
  · exact ⟨h, rfl⟩
  · cases h

/-- Settles O55: the step ends with an advance by its cycles, and the place after each tick is counted in the frame. -/
theorem frameClock : Obligations.FrameClock := by
  intro s t o hl hd hlive hstep ho
  obtain ⟨u, hu, hstep'⟩ := step_live hlive
  cases hstep.symm.trans hstep'
  obtain ⟨huo, hppu⟩ := frameYield_of_out ho
  obtain ⟨v, hv, rfl⟩ := stepped_completeStep hu huo
  have hframe : o.frameComplete = (advancePpu o.cycles v).2 := congrArg StepOut.frameComplete (completeStep_out huo)
  rw [hppu, completeStep_ppu, advancePpu_eq_ticks, hframe]
  rw [← hv] at hl hd ⊢
  obtain ⟨hl', hd', hpos⟩ := ticks_position hl hd o.cycles
  exact ⟨hl', hd', hpos, advancePpu_entered_iff_position hl hd o.cycles⟩

end Sys2Proof.Machine
end

section
/-! The rasterizer (60_exceptions.md R447 to R458): the shade of a palette and the colour index of a tile row in numbers, the background,
the row of a sprite, and what a pixel shows after every sprite of the line is drawn. -/
namespace Sys2Proof.Machine

/-! ### Shades and colour indices in numbers -/

theorem shadeOf_toNat (p : Byte) (i : Shade) : (shadeOf p i).toNat = p.toNat >>> (2 * i.toNat) % 4 :=
  BitVec.extractLsb'_toNat _ _ _

theorem colourIndex_toNat (low high : Byte) (i : Nat) : (colourIndex low high i).toNat = 2 * bitNat high i + bitNat low i := by
  unfold colourIndex bitNat
  cases high.getLsbD i <;> cases low.getLsbD i <;> rfl

/-! ### The background -/

theorem bgShade_of_off {s : State} (h : s.io.lcdc.getLsbD 0 = false) (ly x : Nat) : s.bgShade ly x = 0#2 := by
  rw [State.bgShade, h]
  rfl

theorem bgShade_of_on {s : State} (h : s.io.lcdc.getLsbD 0 = true) (ly x : Nat) :
    (s.bgShade ly x).toNat = s.io.bgp.toNat >>> (2 * (s.bgIndex ly x).toNat) % 4 := by
  rw [State.bgShade, if_pos h, shadeOf_toNat]

theorem lineShades_of_lcd_off {s : State} (h : s.io.lcdc.getLsbD 7 = false) (ly : Nat) :
    s.lineShades ly = List.replicate 160 0#2 := by
  rw [State.lineShades, h]
  rfl

/-- The background of a line, as the drawing of sprites begins with it. -/
def State.bgLine (s : State) (ly : Nat) : List Shade := (List.range 160).map (s.bgShade ly)

theorem bgLine_getElem? (s : State) (ly : Nat) {x : Nat} (hx : x < 160) : (s.bgLine ly)[x]? = some (s.bgShade ly x) := by
  rw [State.bgLine, List.getElem?_map, List.getElem?_range hx, Option.map_some]

theorem lineShades_of_no_sprites {s : State} (h7 : s.io.lcdc.getLsbD 7 = true) (h1 : s.io.lcdc.getLsbD 1 = false) (ly : Nat) :
    s.lineShades ly = s.bgLine ly := by
  simp only [State.lineShades, h7, h1]
  rfl

theorem lineShades_of_sprites {s : State} (h7 : s.io.lcdc.getLsbD 7 = true) (h1 : s.io.lcdc.getLsbD 1 = true) (ly : Nat) :
    s.lineShades ly = (slotOrder s.params.spriteOrder).foldl (s.drawSprite ly) (s.bgLine ly) := by
  simp only [State.lineShades, h7, h1]
  rfl

/-- Settles O56: the colour index of the background in numbers, and a line without sprites is the background. -/
theorem backgroundPixel : Obligations.BackgroundPixel := by
  intro s ly x hx L map row col tile addr low high ci
  have hci : (s.bgIndex ly x).toNat = ci := colourIndex_toNat low high _
  have hon (h : L.getLsbD 0 = true) : (s.bgShade ly x).toNat = s.io.bgp.toNat >>> (2 * ci) % 4 := hci ▸ bgShade_of_on h ly x
  refine ⟨fun h => bgShade_of_off h ly x, hon, fun h7 => ?_, fun h7 h1 h0 => ?_, fun h7 h1 h0 => ?_⟩
  · rw [lineShades_of_lcd_off h7, List.getElem?_replicate_of_lt hx]
  · rw [lineShades_of_no_sprites h7 h1, bgLine_getElem? s ly hx, bgShade_of_off h0]
  · rw [lineShades_of_no_sprites h7 h1, bgLine_getElem? s ly hx, Option.map_some, hon h0]

/-! ### The row of a sprite -/

/-- The even tile of a pair (R457). -/
theorem and_0xFE_toNat (v : Byte) : (v &&& 0xFE#8).toNat = v.toNat / 2 * 2 := by
  revert v
  decide

/-- Settles O57: the definitions of R454 and R457, with the tile, the colour index and the palette in numbers. -/
theorem spriteRow : Obligations.SpriteRow := by
  intro s ly k p _ _ o h y
  have ho (i : Nat) : s.oamByte (4 * k + i) = o i := congrArg s.mem.get (Nat.add_assoc _ _ _).symm
  have hy : s.spriteY k = y := congrArg (fun v : Byte => (v.toNat : Int) - 16) (ho 0)
  have hh : s.spriteHeight = h := rfl
  refine ⟨by rw [State.spriteX, ho], ?_, fun _ => ?_, by rw [State.spritePalette, ho], shadeOf_toNat⟩
  · rw [State.spriteCovers, decide_eq_true_iff, hy, hh]
  · intro r tile bit addr
    have haddr : s.spriteRowAddr ly k = addr := by
      simp only [State.spriteRowAddr, ho, hy, hh, addr, r, tile, apply_ite BitVec.toNat, and_0xFE_toNat]
    rw [State.spriteIndex, haddr, colourIndex_toNat, ho]
    rfl

/-! ### Drawing a line -/

/-- Pixel `p` of a slot reaches column `x` where it lies there and is opaque (R454, R455). -/
theorem drawPixel_getElem? (s : State) (ly k p : Nat) {row : List Shade} {x : Nat} (hlen : row.length = 160) (hx : x < 160) :
    (s.drawPixel ly k row p)[x]? =
      if s.spriteX k + p = x ∧ s.spriteIndex ly k p ≠ 0#2 then some (shadeOf (s.spritePalette k) (s.spriteIndex ly k p))
      else row[x]? := by
  unfold State.drawPixel
  simp only []
  by_cases hci : s.spriteIndex ly k p ≠ 0#2
  · by_cases hpx : s.spriteX k + p = x
    · rw [if_pos ⟨by omega, by omega, hci⟩, if_pos ⟨hpx, hci⟩, List.getElem?_set, if_pos (by omega), if_pos (by omega)]
    · rw [if_neg (c := _ = _ ∧ _) fun h => hpx h.1]
      split_ifs with h
      · exact List.getElem?_set_ne (by omega)
      · rfl
  · rw [if_neg fun h => hci h.2.2, if_neg fun h => hci h.2]

/-- After the first `n` pixels of a slot, column `x` shows the one that lies there and is opaque. -/
theorem drawPixels_getElem? (s : State) (ly k : Nat) {row : List Shade} {x : Nat} (hlen : row.length = 160) (hx : x < 160)
    (n : Nat) : ((List.range n).foldl (s.drawPixel ly k) row)[x]? =
      if 0 ≤ (x : Int) - s.spriteX k ∧ (x : Int) - s.spriteX k < n ∧
          s.spriteIndex ly k ((x : Int) - s.spriteX k).toNat ≠ 0#2 then
        some (shadeOf (s.spritePalette k) (s.spriteIndex ly k ((x : Int) - s.spriteX k).toNat))
      else row[x]? := by
  induction n with
  | zero => rw [if_neg (by omega)]; rfl
  | succ n ih =>
    have hlen' : ((List.range n).foldl (s.drawPixel ly k) row).length = 160 := by
      rw [foldl_length _ (drawPixel_length s ly k), hlen]
    rw [List.range_succ, List.foldl_append, List.foldl_cons, List.foldl_nil, drawPixel_getElem? s ly k n hlen' hx, ih]
    by_cases hn : s.spriteX k + n = x
    · have hd : (x : Int) - s.spriteX k = n := by omega
      simp [hn, hd]
    · have hlt : (x : Int) - s.spriteX k < (n + 1 : Nat) ↔ (x : Int) - s.spriteX k < n := by omega
      rw [if_neg fun h => hn h.1]
      simp only [hlt]

/-- A slot drawn into the line: its opaque pixel at column `x`, or what was there (R455). -/
theorem drawSprite_getElem? (s : State) (ly k : Nat) {row : List Shade} {x : Nat} (hlen : row.length = 160) (hx : x < 160) :
    (s.drawSprite ly row k)[x]? = (s.spriteShadeAt ly k x).or row[x]? := by
  unfold State.drawSprite State.spriteShadeAt
  simp only []
  by_cases hc : s.spriteCovers ly k = true
  · rw [if_pos hc, drawPixels_getElem? s ly k hlen hx]
    simp only [hc, true_and, Nat.cast_ofNat]
    split_ifs <;> rfl
  · rw [if_neg hc, if_neg fun h => hc h.1, Option.none_or]

/-- After slots are drawn in order, a column shows the last opaque pixel among them, or what was there (R455, R456). -/
theorem drawSprites_getElem? (s : State) (ly : Nat) (slots : List Nat) {row : List Shade} {x : Nat} (hlen : row.length = 160)
    (hx : x < 160) :
    (slots.foldl (s.drawSprite ly) row)[x]? = (slots.reverse.findSome? fun k => s.spriteShadeAt ly k x).or row[x]? := by
  induction slots generalizing row with
  | nil => rfl
  | cons k slots ih =>
    rw [List.foldl_cons, ih (by rw [drawSprite_length, hlen]), drawSprite_getElem? s ly k hlen hx, List.reverse_cons,
      List.findSome?_append, Option.or_assoc, List.findSome?_singleton]

/-- Settles O58: the slots drawn over the background, in each of the two orders. -/
theorem spriteCompositing : Obligations.SpriteCompositing := by
  intro s ly x hx h7 h1
  have hlen : (s.bgLine ly).length = 160 := by rw [State.bgLine, List.length_map, List.length_range]
  have hline : (s.lineShades ly)[x]? =
      some (((slotOrder s.params.spriteOrder).reverse.findSome? fun k => s.spriteShadeAt ly k x).getD (s.bgShade ly x)) := by
    rw [lineShades_of_sprites h7 h1, drawSprites_getElem? s ly _ hlen hx, bgLine_getElem? s ly hx, Option.or_some]
  refine ⟨fun ho => ?_, fun ho => ?_⟩ <;> rw [hline, ho]
  · rfl
  · rw [slotOrder, List.reverse_reverse]

end Sys2Proof.Machine
end

section
/-! A step that fetches (60_exceptions.md R400, R420): what the fetch at PC reads, that the step runs what the bytes decode to, and
that an opcode outside IMPLEMENTED stops the machine. -/

namespace Sys2Proof

/-! ### Words that decode -/

/-- Settles O5: each word holds its row of Table E1 or E2, and the last one ends inside its instruction. -/
theorem sampleWords : Obligations.SampleWords :=
  ⟨rfl, rfl, rfl, rfl, rfl, rfl, rfl, rfl, rfl, rfl, rfl, rfl⟩

end Sys2Proof

namespace Sys2Proof.Machine

/-! ### The opcode -/

/-- 0xCB alone selects an entry of Table E2 (30_encoding.md R144). -/
theorem eq_0xCB_of_extended {b : Byte} (h : entryE1 b = .extended) : b = 0xCB#8 := by
  have he := entryE1_encodedAt b
  rwa [h] at he

theorem fetchOpcode_prefixed {s : State} (h : s.readByte s.regs.pc = 0xCB#8) :
    let b1 := (s.afterRead s.regs.pc).readByte (s.regs.pc + 1#16)
    s.fetchOpcode = (cat 0xCB#8 b1, .one (decodeExt b1), (s.afterRead s.regs.pc).afterRead (s.regs.pc + 1#16)) := by
  simp only [State.fetchOpcode, h]
  rfl

theorem fetchOpcode_base {s : State} (h : s.readByte s.regs.pc ≠ 0xCB#8) :
    s.fetchOpcode = (cat 0#8 (s.readByte s.regs.pc), entryE1 (s.readByte s.regs.pc), s.afterRead s.regs.pc) := by
  unfold State.fetchOpcode
  simp only []
  split
  · rename_i he
    exact absurd (eq_0xCB_of_extended he) h
  · rfl

theorem runInstruction_of_leftOut {s u : State} {op : BitVec 16} {e : Entry} (hf : s.fetchOpcode = (op, e, u))
    (h : s.params.leftOut.contains op = true) : s.runInstruction = .next (u.raiseFatal op) := by
  simp only [State.runInstruction, hf, h, if_true]

theorem runInstruction_of_exec {s u v t : State} {op : BitVec 16} {e : Entry} {i : Instr} (hf : s.fetchOpcode = (op, e, u))
    (h : s.params.leftOut.contains op = false) (hg : u.fetchOperands e = (i, v)) (ht : exec i v = .next t) :
    s.runInstruction = .next t.retire := by
  simp only [State.runInstruction, hf, h, hg, runDecoded, ht, Bool.false_eq_true, if_false]

/-! ### The bytes of an instruction -/

/-- The opcode byte, then the operand bytes of its entry (30_encoding.md R131, R132). -/
theorem fetchBytes_lengthOf (s : State) :
    fetchBytes s.regs.pc (lengthOf (s.readByte s.regs.pc)) s =
      let ops := fetchBytes (s.regs.pc + 1#16) (entryE1 (s.readByte s.regs.pc)).operandBytes (s.afterRead s.regs.pc)
      (s.readByte s.regs.pc :: ops.1, ops.2) := by
  rw [lengthOf_eq]
  rfl

theorem opcodeOf_base {b0 : Byte} (h : b0 ≠ 0xCB#8) (ops : List Byte) : opcodeOf (b0 :: ops) = cat 0#8 b0 := by
  cases ops with
  | nil => rfl
  | cons b1 ops => exact if_neg h

/-- The operand fetch reads the bytes that the entry spells an instruction with, STOP's second byte apart (R131, R142). -/
theorem fetchOperands_of_reads {s : State} {e : Entry} {i : Instr} (he : ∀ j, e ≠ .twoUnread j)
    (h : e.Reads (fetchBytes (s.regs.pc + 1#16) e.operandBytes s).1 i) :
    s.fetchOperands e = (i, (fetchBytes (s.regs.pc + 1#16) e.operandBytes s).2) := by
  have hpc : s.regs.pc + 1#16 + 1#16 = s.regs.pc + 2#16 := BitVec.add_assoc _ _ _
  cases e with
  | twoUnread j => exact absurd rfl (he j)
  | one | two | extended => cases h; rfl
  | three mk =>
    simp only [Entry.operandBytes, fetchBytes, hpc] at h ⊢
    cases h
    rfl

/-- The instruction that the bytes at PC decode to is the one the step fetches, STOP apart. -/
theorem fetch_of_decode {s : State} {i : Instr} {f : List Byte × State}
    (hf : f = fetchBytes s.regs.pc (lengthOf (s.readByte s.regs.pc)) s) (h : decode f.1 = .ok (i, [])) (hstop : i ≠ .stop) :
    ∃ e u, s.fetchOpcode = (opcodeOf f.1, e, u) ∧ u.fetchOperands e = (i, f.2) := by
  rw [fetchBytes_lengthOf] at hf
  subst hf
  obtain ⟨ops, hops, hr⟩ := decode_cons_iff.mp h
  rw [List.append_nil] at hops
  subst hops
  by_cases hcb : s.readByte s.regs.pc = 0xCB#8
  · rw [fetchOpcode_prefixed hcb]
    rw [hcb, show entryE1 0xCB#8 = .extended from rfl] at hr ⊢
    cases hr
    exact ⟨_, _, rfl, rfl⟩
  · have htwo (j : Instr) : entryE1 (s.readByte s.regs.pc) ≠ .twoUnread j := by
      intro he
      have hj := entryE1_encodedAt (s.readByte s.regs.pc)
      rw [he] at hj hr
      cases hr
      exact hstop hj
    rw [opcodeOf_base hcb, fetchOpcode_base hcb]
    have hread := fetchOperands_of_reads (s := s.afterRead s.regs.pc) htwo (by rw [afterRead_regs]; exact hr)
    rw [afterRead_regs] at hread
    exact ⟨_, _, rfl, hread⟩

theorem fetchBytes_of_ne_div {n : Nat} {a : Word} (s : State) (h : ∀ k, k < n → a + BitVec.ofNat 16 k ≠ divAddr) :
    (fetchBytes a n s).2 = s := by
  induction n generalizing a with
  | zero => rfl
  | succ n ih =>
    have ha : a ≠ divAddr := by simpa using h 0 (Nat.succ_pos n)
    show (fetchBytes (a + 1#16) n (s.afterRead a)).2 = s
    rw [afterRead_of_ne s ha]
    refine ih fun k hk => ?_
    have hadd : a + 1#16 + BitVec.ofNat 16 k = a + BitVec.ofNat 16 (k + 1) := by
      rw [BitVec.add_assoc, Nat.add_comm k 1, BitVec.ofNat_add]
    exact hadd ▸ h (k + 1) (Nat.succ_lt_succ hk)

/-! ### The step -/

theorem wake_readByte (s : State) (a : Word) : s.wake.readByte a = s.readByte a :=
  readByte_congr rfl rfl rfl rfl rfl fun _ => rfl

theorem step_of_fetches {s u : State} (h : s.fetches = true) (hr : s.wake.runInstruction = .next u) :
    step s = .next u.frameYield := by
  simp only [State.fetches, Bool.and_eq_true, Bool.not_eq_true'] at h
  obtain ⟨⟨hlive, hw⟩, hd⟩ := h
  exact step_of_live hlive (by rw [machineStep_of_not_waits hw, wake_dispatchPending, hd, ← hr]; rfl)

/-- Settles O46: the bytes at PC are those the step fetches, its instruction is theirs, and STOP is the row 0x10 of Table E1. -/
theorem stepRunsDecoded : Obligations.StepRunsDecoded := by
  intro s hfetch f
  have hb0 := wake_readByte s s.regs.pc
  refine ⟨fun i hdec hin hstop => ?_, fun hb hin => ?_, fetchBytes_of_ne_div s.wake⟩
  · obtain ⟨e, u, hop, hops⟩ := fetch_of_decode (s := s.wake) (f := f) (by rw [wake_regs, hb0]) hdec hstop
    obtain ⟨t, ht, -⟩ := exec_runs i f.2
    exact ⟨t, ht, step_of_fetches hfetch (runInstruction_of_exec hop hin hops ht)⟩
  · have hop := fetchOpcode_base (s := s.wake) (by rw [wake_regs, hb0, hb]; decide)
    rw [wake_regs, hb0, hb] at hop
    exact ⟨_, rfl, step_of_fetches hfetch (runInstruction_of_exec hop hin rfl rfl)⟩

/-! ### An opcode outside IMPLEMENTED -/

theorem fatalRow_of_never {b : Byte} (h : b ∈ 0x10#8 :: illegalOps) : ∃ i, FatalRow b i := by
  revert b
  simp only [illegalOps, List.forall_mem_cons]
  exact ⟨⟨.stop, rfl, fun _ => rfl⟩, ⟨.illegalD3, rfl, fun _ => rfl⟩, ⟨.illegalDB, rfl, fun _ => rfl⟩,
    ⟨.illegalDD, rfl, fun _ => rfl⟩, ⟨.illegalE3, rfl, fun _ => rfl⟩, ⟨.illegalE4, rfl, fun _ => rfl⟩,
    ⟨.illegalEB, rfl, fun _ => rfl⟩, ⟨.illegalEC, rfl, fun _ => rfl⟩, ⟨.illegalED, rfl, fun _ => rfl⟩,
    ⟨.illegalF4, rfl, fun _ => rfl⟩, ⟨.illegalFC, rfl, fun _ => rfl⟩, ⟨.illegalFD, rfl, fun _ => rfl⟩, List.forall_mem_nil _⟩

theorem FatalRow.fetchOperands {b : Byte} {i : Instr} (h : FatalRow b i) (s : State) : s.fetchOperands (entryE1 b) = (i, s) := by
  rw [h.entry]
  split <;> rfl

theorem implemented_prefixed (p : Params) (b1 : Byte) : implemented p (cat 0xCB#8 b1) = !p.leftOut.contains (cat 0xCB#8 b1) := by
  simp [implemented]

/-- A base opcode that is not left out is outside IMPLEMENTED only where it is STOP or illegal (00_scope.md R10). -/
theorem never_of_unimplemented {p : Params} {b : Byte} (hcb : b ≠ 0xCB#8) (hin : p.leftOut.contains (cat 0#8 b) = false)
    (h : implemented p (cat 0#8 b) = false) : b ∈ 0x10#8 :: illegalOps := by
  simp only [implemented, hi_cat, lo_cat, hin] at h
  by_cases hill : b ∈ illegalOps
  · exact List.mem_cons_of_mem _ hill
  · by_cases hstop : b = 0x10#8
    · exact hstop ▸ List.mem_cons_self
    · simp [hill, hstop, hcb] at h

/-- An opcode outside IMPLEMENTED stops the machine in the state that the fetch of the opcode left (R420). -/
theorem runInstruction_of_unimplemented {s : State} (h : implemented s.params s.fetchOpcode.1 = false) :
    s.runInstruction = .next (s.fetchOpcode.2.2.raiseFatal s.fetchOpcode.1) := by
  cases hin : s.params.leftOut.contains s.fetchOpcode.1 with
  | true => exact runInstruction_of_leftOut rfl hin
  | false =>
    by_cases hcb : s.readByte s.regs.pc = 0xCB#8
    · rw [fetchOpcode_prefixed hcb] at h hin
      rw [implemented_prefixed, hin] at h
      cases h
    · have hop := fetchOpcode_base hcb
      rw [hop] at h hin ⊢
      obtain ⟨i, hrow⟩ := fatalRow_of_never (never_of_unimplemented hcb hin h)
      exact runInstruction_of_exec hop hin (hrow.fetchOperands _) (hrow.exec_eq _)

/-- Settles O49: the fetch of the opcode alone precedes the fatal stop, and neither the end of the step nor the host's turn follows. -/
theorem unimplementedOpcode : Obligations.UnimplementedOpcode := by
  intro s hfetch pc0 s1 b0 op himp
  have hb0 : s.wake.readByte s.wake.regs.pc = b0 := wake_readByte s s.regs.pc
  obtain ⟨hop, hu⟩ : s.wake.fetchOpcode.1 = op ∧
      s.wake.fetchOpcode.2.2 = if b0 = 0xCB#8 then s1.afterRead (pc0 + 1#16) else s1 := by
    by_cases hcb : b0 = 0xCB#8
    · rw [fetchOpcode_prefixed (hb0.trans hcb), if_pos hcb]
      exact ⟨(if_pos hcb).symm, rfl⟩
    · rw [fetchOpcode_base (hb0.trans_ne hcb), if_neg hcb, hb0]
      exact ⟨(if_neg hcb).symm, rfl⟩
  have hrun := runInstruction_of_unimplemented (s := s.wake) (hop ▸ himp)
  have hkeep := fetchOpcode_keeps s.wake
  rw [hop, hu] at hrun
  rw [hu] at hkeep
  obtain ⟨hctl, hworld, hregs, hout⟩ := raiseFatal_effect (if b0 = 0xCB#8 then s1.afterRead (pc0 + 1#16) else s1) op
  rw [hkeep.ctl] at hctl hworld
  rw [hkeep.regs] at hctl hregs
  exact ⟨_, step_of_fetches hfetch hrun, hctl, hworld, hregs, hout⟩

end Sys2Proof.Machine
end

section
/-! The inputs of the machine that a read meets (60_exceptions.md R465 to R470): the joypad register and the draws of DIV. -/
namespace Sys2Proof.Machine

/-! ### The joypad register -/

theorem bits4_toNat (b0 b1 b2 b3 : Bool) :
    (bits4 b0 b1 b2 b3).toNat = b0.toNat + 2 * b1.toNat + 4 * b2.toNat + 8 * b3.toNat := by
  revert b0 b1 b2 b3
  decide

/-- P1 from its two groups of four bits (R466): bits 7 and 6, the select bits, the groups combined by AND. -/
theorem p1_fields (sel : BitVec 2) (g0 g1 : BitVec 4) :
    (0b11#2 ++ sel ++ (g0 &&& g1) : Byte).toNat = 0xC0 ||| sel.toNat <<< 4 ||| (g0.toNat &&& g1.toNat) := by
  simp only [BitVec.toNat_append, BitVec.toNat_and, Nat.shiftLeft_or_distrib]
  rfl

theorem fifteen_and_toNat (g : BitVec 4) : (0xF#4).toNat &&& g.toNat = g.toNat := by
  revert g
  decide

/-- A selected group, active low, as the pseudocode of R466 joins it to the bits before it. -/
theorem group_toNat (sel : Bool) (g w : BitVec 4) :
    (if sel then g.toNat else g.toNat &&& (0x0F ^^^ w.toNat)) = g.toNat &&& (if sel then 0xF#4 else 0xF#4 ^^^ w).toNat := by
  cases sel with
  | true => simpa using (congrArg BitVec.toNat (BitVec.and_allOnes (x := g))).symm
  | false => simp

/-- Settles O13: the two groups in turn, direction buttons first. -/
theorem joypadRead : Obligations.JoypadRead := by
  intro s dir act g0 g1
  let b := s.buttons
  let low := bits4 b.right b.left b.up b.down
  let high := bits4 b.a b.b b.select b.start
  have hg0 : g0 = (if s.io.sel.getLsbD 0 then 0xF#4 else 0xF#4 ^^^ low).toNat := by
    have h := group_toNat (s.io.sel.getLsbD 0) 0xF#4 low
    rw [bits4_toNat, fifteen_and_toNat] at h
    exact h
  have hg1 : g1 = g0 &&& (if s.io.sel.getLsbD 1 then 0xF#4 else 0xF#4 ^^^ high).toNat := by
    have h := group_toNat (s.io.sel.getLsbD 1) (if s.io.sel.getLsbD 0 then 0xF#4 else 0xF#4 ^^^ low) high
    rw [bits4_toNat, ← hg0] at h
    exact h
  rw [hg1, hg0, ← p1_fields]
  exact congrArg BitVec.toNat (readByte_addr s .p1)

/-! ### The draws of DIV -/

/-- Settles O14: the two cases of `nextDraw` and `consumeDraw`, and the row of DIV in the dispatcher. -/
theorem divDraws : Obligations.DivDraws := by
  intro s
  have hread : s.readByte divAddr = s.nextDraw := readByte_addr s .div
  have hafter := afterRead_div s
  refine ⟨fun v q h => ⟨hread.trans ?_, hafter.trans ?_⟩, fun h => ⟨hread.trans ?_, hafter.trans ?_⟩, writeByte_addr s .div,
    fun a ha => afterRead_of_ne s ha, rfl, hafter.symm, hread.symm⟩
  · simp only [State.nextDraw, h]
  · simp only [State.consumeDraw, h]
  · simp only [State.nextDraw, h]
  · simp only [State.consumeDraw, h]

end Sys2Proof.Machine
end

section
/-! The host (60_exceptions.md R480 to R483, 70_reset_and_hazards.md): its turn at a frame yield, construction and reset. -/
namespace Sys2Proof.Machine

/-! ### The host's turn -/

theorem frameYield_of_some {s : State} {o : StepOut} (h : s.out = some o) :
    s.frameYield = if o.frameComplete then s.hostTurn else s := by
  simp only [State.frameYield, h]

theorem frameYield_of_none {s : State} (h : s.out = none) : s.frameYield = s := by
  simp only [State.frameYield, h]

theorem frameYield_params (s : State) : s.frameYield.params = s.params := by
  rcases frameYield_cases s with ⟨b, x, h⟩ | ⟨q, -, h⟩
  · rw [h]
  · rw [h]; rfl

theorem step_params {s t : State} (h : step s = .next t) : t.params = s.params := by
  rcases step_cases h with ⟨-, r, q, -, -, rfl⟩ | ⟨-, u, hu, rfl⟩
  · rfl
  · obtain ⟨-, hparams, -, -⟩ := stepped_keeps hu
    exact (frameYield_params u).trans hparams

/-- The host has no turn in a step whose output is no completed frame. -/
theorem frameYield_of_not_complete {s : State} (hout : s.frameYield.out ≠ none)
    (hframe : ∀ o, s.frameYield.out = some o → o.frameComplete = false) : s.frameYield = s := by
  obtain ⟨o, ho⟩ := Option.ne_none_iff_exists'.mp hout
  rw [frameYield_of_some (frameYield_of_out ho).1, hframe o ho]
  rfl

/-- Settles O60: what a step keeps (`stepped_keeps`), and the branches of the host's turn. -/
theorem buttonsAtFrameYield : Obligations.ButtonsAtFrameYield := by
  refine ⟨fun s t => step_params, fun s t hlive hstep hframe hout => ?_,
    fun s q => ⟨rfl, fun h => ?_, fun b h => ?_, fun h => ?_, fun h => ?_⟩,
    fun s h => ⟨Buttons.ofByte (Config.buttonsDraw s.ext.buttonsPos), ?_⟩, fun s h => if_pos h, fun s => frameYield_of_none,
    fun s o => frameYield_of_some⟩
  · obtain ⟨u, hu, hstep'⟩ := step_live hlive
    cases hstep.symm.trans hstep'
    rw [frameYield_of_not_complete hout hframe]
    obtain ⟨-, -, hbuttons, -⟩ := stepped_keeps hu
    exact hbuttons
  · simp only [State.hostTurn, h]
  · simp only [State.hostTurn, h]; rfl
  · simp only [State.hostTurn, h]
  · simp only [State.hostTurn, h]; rfl
  · simp only [State.hostTurn, h]

/-! ### Construction and reset -/

/-- Byte `i` of a cartridge image stands at offset `i` from its start (70_reset_and_hazards.md R501). -/
theorem Memory.get_ofImage {image : List Byte} {k : Nat} (hk : k + image.length ≤ 0x8000) {i : Nat} (hi : i < image.length) :
    (Memory.ofImage k image).get (k + i) = image[i] := by
  induction image generalizing k i with
  | nil => cases hi
  | cons v r ih =>
    rw [List.length_cons] at hk hi
    cases i with
    | zero => exact Memory.get_cons_self k v _ (Memory.get_below (Memory.ofImage_wfFrom r (k + 1) (by omega)) (Nat.lt_succ_self k))
    | succ i =>
      rw [Memory.ofImage, Memory.get_cons_ne k v _ (by omega), show k + (i + 1) = k + 1 + i by omega]
      exact ih (by omega) (by omega)

/-- Past its image a constructed memory holds nothing. -/
theorem Memory.get_ofImage_past (image : List Byte) {k j : Nat} (hj : k + image.length ≤ j) :
    (Memory.ofImage k image).get j = Memory.unlisted := by
  induction image generalizing k with
  | nil => rfl
  | cons v r ih =>
    rw [List.length_cons] at hj
    rw [Memory.ofImage, Memory.get_cons_ne k v _ (by omega), ih (by omega)]

theorem readByte_rom {s : State} {a : Word} (h : a.toNat < 0x8000) : s.readByte a = s.mem.get a.toNat :=
  readByte_backed (backed_rom h)

/-- Settles O59: the image in ROM byte by byte, and the part of memory that a reset keeps. -/
theorem constructAndReset : Obligations.ConstructAndReset := by
  refine ⟨fun p image h => if_neg h, fun p image h => ⟨_, if_pos h, fun i hi => ?_, fun k hk => ?_, rfl⟩, fun s => ?_,
    fun p rom x => ⟨rfl, rfl, rfl, rfl, fun a ha => readByte_rom ha⟩, rfl, rfl⟩
  · have hi' : (BitVec.ofNat 16 i).toNat = i := by rw [BitVec.toNat_ofNat]; omega
    rw [readByte_rom (by omega), hi']
    show (Memory.ofImage 0 image).get i = image[i]
    simpa only [Nat.zero_add] using Memory.get_ofImage (k := 0) (by omega) hi
  · exact Memory.get_ofImage_past image (by omega)
  · refine ⟨fun a ha => ?_, fun k hk => Memory.get_romPart_ram s.mem hk, rfl, rfl, rfl⟩
    rw [readByte_rom ha, readByte_rom ha, hostReset_rom s ha]

end Sys2Proof.Machine
end
